-- ==== Sys2Proof/Word.lean ====
section
/-! DEFINITION. The word types of the machine (00_scope.md R9): bytes, 16-bit words, 24-bit bus addresses, and the
two operand widths of the width selectors (R14). -/

namespace Sys2Proof

/-- An 8-bit byte (R9). -/
abbrev Byte := BitVec 8
/-- A 16-bit word (R9). -/
abbrev Word := BitVec 16
/-- A 24-bit long bus address (R9, R100). -/
abbrev Addr := BitVec 24

/-- The width of an accumulator, memory or index operand: `mw` and `xw` of R14 take one of these two values. -/
inductive Width where
  | w8
  | w16
  deriving DecidableEq, Repr

/-- The number of bits of a width. -/
def Width.bits : Width → Nat
  | .w8 => 8
  | .w16 => 16

end Sys2Proof
end

