-- ==== Sys2Proof/Machine/Bits.lean ====
section
/-! DEFINITION. Byte, word and address fields (00_scope.md R9, R10, R14): the low and high halves of a word, the
assembly of words and addresses from bytes, sign extension, and truncation to an operand width. -/

namespace Sys2Proof

/-- Bits 7:0 of a word (AL, XL, ...; R10). -/
def lo (v : Word) : Byte := v.setWidth 8
/-- Bits 15:8 of a word (AH, XH, ...; R10). -/
def hi (v : Word) : Byte := v.extractLsb' 8 8
/-- The word with the given high and low byte (R9). -/
def word (h l : Byte) : Word := h ++ l
/-- The bus address bank:offset (R9). -/
def long (b : Byte) (o : Word) : Addr := b ++ o
/-- Bits 23:16 of a bus address. -/
def bankOf (a : Addr) : Byte := a.extractLsb' 16 8
/-- Bits 15:0 of a bus address. -/
def offOf (a : Addr) : Word := a.setWidth 16
/-- A byte as a word, zero-extended (R9). -/
def zext (v : Byte) : Word := v.setWidth 16
/-- A byte as a word, sign-extended (R173). -/
def sext (v : Byte) : Word := v.signExtend 16
/-- `trunc_w(v)`: the low w bits of a word (R9). -/
def trunc : Width → Word → Word
  | .w8, v => zext (lo v)
  | .w16, v => v
/-- `msb_w(v) = v[w-1]` (R14). -/
def msb (w : Width) (v : Word) : Bool := v.getLsbD (w.bits - 1)
/-- A register of which a width-w write changes only the low w bits (R14, R31). -/
def setLow : Width → Word → Word → Word
  | .w8, old, v => word (hi old) (lo v)
  | .w16, _, v => v
/-- The byte with the low bit of the given Bool. -/
def bitByte (b : Bool) : Byte := (BitVec.ofBool b).setWidth 8

end Sys2Proof
end

