-- ==== Sys2Proof/Config.lean ====
section
/-! DEFINITION. The numbers the spec fixes for the block (00_scope.md R8) and the one source of free values.
Parameters the spec leaves OPEN or selectable (region, overscan, IRQ_LEVEL_MODE, overheads, RESET_CLOCKS, RAM_INIT,
agent frequencies) are not here: they are fields of State (Machine/State.lean), so a statement over every state is a
statement over every value of theirs. -/

namespace Sys2Proof.Config

/-- MPY_LATENCY (R8, R492). -/
abbrev mpyLatency : Nat := 8
/-- DIV_LATENCY (R8, R495). -/
abbrev divLatency : Nat := 16
/-- WRAM_SIZE in bytes (R8, R65). -/
abbrev wramSize : Nat := 0x20000
/-- IO_CLOCKS: master clocks of an internal CPU cycle (R8, R125). -/
abbrev ioClocks : Nat := 6
/-- DMA_BYTE_CLOCKS (R8, R443). -/
abbrev dmaByteClocks : Nat := 8
/-- LINE_CLOCKS: master clocks of a scanline at power and reset (R8, R47). -/
abbrev lineClocks : Nat := 1364
/-- LINES_PER_FRAME, NTSC (R8, R586). -/
abbrev linesNtsc : Nat := 262
/-- LINES_PER_FRAME, PAL (R8, R586). -/
abbrev linesPal : Nat := 312
/-- VDISP without overscan (R8, D16). -/
abbrev vdispNormal : Nat := 225
/-- VDISP with overscan (R8, D16). -/
abbrev vdispOverscan : Nat := 240
/-- DRAM_REFRESH_POS (R8, R590). -/
abbrev dramRefreshPos : Nat := 538
/-- DRAM_REFRESH_CLOCKS (R8, R590). -/
abbrev dramRefreshClocks : Nat := 40
/-- HDMA_INIT_POS (R8, R590). -/
abbrev hdmaInitPos : Nat := 12
/-- HDMA_RUN_POS (R8, R590). -/
abbrev hdmaRunPos : Nat := 1104
/-- NMI_POS (R8, R590). -/
abbrev nmiPos : Nat := 2
/-- AUTOJOY_POS (R8, R590). -/
abbrev autojoyPos : Nat := 2
/-- AUTOJOY_BUSY_CLOCKS (R8, R514). -/
abbrev autojoyBusyClocks : Nat := 4224
/-- HIRQ_OFFSET (R8, R553). -/
abbrev hirqOffset : Nat := 4
/-- VIRQ_POS (R8, R553). -/
abbrev virqPos : Nat := 0
/-- CPU_VERSION, RDNMI bits 3:0 (R8, R506). -/
abbrev cpuVersion : BitVec 4 := 2
/-- OPEN_BUS_INIT, the bus latch MDR at power and reset (R8, D5). -/
abbrev openBusInit : BitVec 8 := 0x00
/-- Lower bound of the second horizontal-blank interval, master clocks (R508). -/
abbrev hblankLo : Nat := 1096
/-- Upper bound of the first horizontal-blank interval, master clocks (R508). -/
abbrev hblankHi : Nat := 2
/-- FREQ(CPU), NTSC, in Hz (R8, R580). -/
abbrev freqNtsc : Nat := 21477272
/-- FREQ(CPU), PAL, in Hz (R8, R580). -/
abbrev freqPal : Nat := 21281370
/-- What a byte of a memory device that is not listed reads as: the repository's power-on filling byte (D23).
DESIGN CHOICE (unsafe), log entry 3. -/
abbrev memFill : BitVec 8 := 0x55

/-- FREE VALUE: the byte another agent's register returns (R6, R133: the other units' registers are opaque to this
block), by a counter that each such read advances. It has no body: nothing can be proved of its value. Log entry 5. -/
opaque freeByte : Nat → BitVec 8

end Sys2Proof.Config
end

