-- ==== Sys2Proof/Machine/State.lean ====
section
/-! DEFINITION. The state of the block: every field 10_state.md gives the machine, the parameters the spec leaves to the
model (00_scope.md R8), and the inputs of the outside world as queues of plain data. Each register has one home. -/

namespace Sys2Proof.Machine

/-- The execution state `run` of the CPU (R38). -/
inductive RunState where
  | run
  | wai
  | stp
  deriving DecidableEq, Repr

/-- The processor status P (R35), one Bool per bit, bit 7 first. All eight bits are defined; `Status.toByte` and
`Status.ofByte` (Machine/Flags.lean) are the byte software pushes and pulls. -/
structure Status where
  /-- bit 7, negative -/
  n : Bool
  /-- bit 6, overflow -/
  v : Bool
  /-- bit 5, accumulator and memory width: true = 8 bits -/
  m : Bool
  /-- bit 4, index width: true = 8 bits -/
  x : Bool
  /-- bit 3, decimal -/
  d : Bool
  /-- bit 2, IRQ disable -/
  i : Bool
  /-- bit 1, zero -/
  z : Bool
  /-- bit 0, carry -/
  c : Bool
  deriving DecidableEq, Repr

/-- The CPU register file (R30, R38). The open-bus latch MDR stands with the bus. -/
structure Cpu where
  a : Word
  x : Word
  y : Word
  s : Word
  d : Word
  db : Byte
  pb : Byte
  pc : Word
  p : Status
  /-- emulation-mode bit E (R37) -/
  e : Bool
  run : RunState
  deriving DecidableEq, Repr

/-- One interrupt source machine (R49, R545). `flag` is the level software reads: `nmi.line` itself for NMI (RDNMI bit
7), the raster part `irq_flag` of `irq.line` for IRQ (TIMEUP bit 7). -/
structure IntSource where
  valid : Bool
  flag : Bool
  transition : Bool
  pending : Bool
  hold : Nat
  deriving DecidableEq, Repr

/-- Interrupt state: dispatch fields (R46, R50), the two source machines (R49), the external IRQ input (R551, R555) and the
raster-compare registers (R54, R503). -/
structure Intr where
  nmi : IntSource
  irq : IntSource
  /-- `ext_irq`, the level of the external interrupt input (R551) -/
  extIrq : Bool
  /-- the levels `ext_irq` takes at the coming polls, next poll first; when empty the level stays (93 U14) -/
  extIrqIn : List Bool
  interruptPending : Bool
  interruptVector : Word
  resetPending : Bool
  /-- NMITIMEN bit 5 -/
  virqEn : Bool
  /-- NMITIMEN bit 4 -/
  hirqEn : Bool
  htime : BitVec 9
  vtime : BitVec 9
  deriving DecidableEq, Repr

/-- Clock, video counter and per-line event fields (R47, R48, R68). -/
structure Clock where
  clockCount : Nat
  lineClocks : Nat
  hcounter : Nat
  vcounter : Nat
  field : Bool
  dramRefreshPosition : Nat
  dramRefreshed : Bool
  hdmaInitPosition : Nat
  hdmaInitTriggered : Bool
  hdmaPosition : Nat
  hdmaTriggered : Bool
  /-- the counter has been at line 0, position 0 since the host's run quantum began: the quantum is over (R597) -/
  quantumOver : Bool
  deriving DecidableEq, Repr

/-- One DMA channel: its registers 0x43n0-0x43nF and its four unmapped bits (R60). -/
structure Channel where
  dmap : Byte
  bbad : Byte
  a1t : Word
  a1b : Byte
  das : Word
  dasb : Byte
  a2a : Word
  ntrl : Byte
  unused : Byte
  dmaEnabled : Bool
  hdmaEnabled : Bool
  hdmaCompleted : Bool
  hdmaDoTransfer : Bool
  deriving DecidableEq, Repr

/-- `hdma_mode` (R51). -/
inductive HdmaMode where
  | init
  | run
  deriving DecidableEq, Repr

/-- The DMA engine (R51, R454) and its eight channels (R60). -/
structure Dma where
  active : Bool
  channel : Fin 8
  /-- master clocks still owed by the byte in progress -/
  clocks : Nat
  /-- the loop index of the channel in progress (R448, R454) -/
  index : Nat
  /-- whether a `dma_run()` is in progress (R442) -/
  running : Bool
  /-- P.I as the CPU's cycle left it when the controller took the bus: the mask of the polls until the bus is given back
  (R447) -/
  maskI : Bool
  pending : Bool
  hdmaPending : Bool
  hdmaMode : HdmaMode
  channels : Vector Channel 8
  deriving DecidableEq, Repr

/-- The multiply/divide unit (R53, R492, R495). -/
structure Alu where
  wrmpya : Byte
  wrmpyb : Byte
  wrdiv : Word
  wrdivb : Byte
  rddiv : Word
  rdmpy : Word
  mpyctr : Nat
  divctr : Nat
  mulA : Byte
  mulB : Byte
  divA : Word
  divB : Byte
  deriving DecidableEq, Repr

/-- The serial shift state of one joypad port (R511). -/
structure SerialPort where
  data : Word
  index : Nat
  deriving DecidableEq, Repr

/-- Joypad fields (R52, R517) and the two host words `pad[p]` (R510). -/
structure Joypad where
  strobe : Bool
  joy1 : Word
  joy2 : Word
  joy3 : Word
  joy4 : Word
  ser0 : SerialPort
  ser1 : SerialPort
  autojoyBusy : Nat
  /-- NMITIMEN bit 0 (R503) -/
  autojoyEn : Bool
  pad0 : Word
  pad1 : Word
  deriving DecidableEq, Repr

/-- WRIO, MEMSEL and the work-RAM port pointer WMADD (R55, R65). -/
structure Io where
  wrio : Byte
  memsel : Bool
  wmadd : BitVec 17
  deriving DecidableEq, Repr

/-- A cartridge memory device (R66, R110): `patchable` storage obeys `writeProtect`. `cells` is its content in the
canonical form of Machine/Memory.lean. -/
structure MemDevice where
  size : Nat
  patchable : Bool
  writeProtect : Bool
  cells : List Host.Cell
  deriving DecidableEq, Repr

/-- What a page-table entry refers to (R101, R113). -/
inductive DevRef where
  | unmapped
  | mmio
  | wram
  | cart (k : Nat)
  deriving DecidableEq, Repr

/-- The mapping modes of `map()` (R106-R108). -/
inductive MapMode where
  | direct
  | linear
  | shadow
  deriving DecidableEq, Repr

/-- One call of `map()` (R105). -/
structure MapRequest where
  mode : MapMode
  bankLo : Nat
  bankHi : Nat
  addrLo : Nat
  addrHi : Nat
  dev : DevRef
  offset : Nat
  size : Nat
  deriving DecidableEq, Repr

/-- The agents of the system (R69, R595). -/
inductive AgentId where
  | cpu
  | audio
  | video
  | coproc (k : Nat)
  deriving DecidableEq, Repr

/-- A range of MMIO register addresses owned by one agent (R115, R117). -/
structure Claim where
  lo : Nat
  hi : Nat
  owner : AgentId
  deriving DecidableEq, Repr

/-- An agent other than the CPU, as far as this block models it (R6, R596): its frequency, the number of its own clocks it
has executed, and the clocks one of its steps takes. -/
structure Agent where
  freq : Nat
  clocks : Nat
  stepClocks : Nat
  deriving DecidableEq, Repr

/-- A cartridge as `load_cart()` takes it (R118, R121). -/
structure Cart where
  devices : List MemDevice
  maps : List MapRequest
  claims : List Claim
  coprocs : List Agent
  deriving DecidableEq, Repr

/-- The address decoder and the memory devices (R40, R65-R67). The page table is held as the `map()` calls that made it,
newest first (log entry 16): Machine/AddressDecoder.lean computes an entry. -/
structure Bus where
  /-- the open-bus latch (R40) -/
  mdr : Byte
  wram : List Host.Cell
  devices : List MemDevice
  maps : List MapRequest
  mmio : List Claim
  cart : Option Cart
  deriving DecidableEq, Repr

/-- An effect that leaves the block (R605): an access to another agent's register, or the counter-latch signal. -/
inductive ExtEvent where
  | read (owner : AgentId) (a : Addr)
  | write (owner : AgentId) (a : Addr) (v : Byte)
  | counterLatch
  deriving DecidableEq, Repr

/-- The boundary to the other agents: the counter of the free values they return, and the events sent to them, newest
first. Both are the model's own fields. -/
structure Ext where
  freeCount : Nat
  events : List ExtEvent
  deriving DecidableEq, Repr

/-- Scheduler state (R69). `t[CPU]` and the video counter's time are `clockCount` (R586). -/
structure Sched where
  running : AgentId
  audio : Agent
  video : Agent
  coprocs : List Agent
  deriving DecidableEq, Repr

/-- REGION (R8). -/
inductive Region where
  | ntsc
  | pal
  deriving DecidableEq, Repr

/-- The parameters of R8 that the spec leaves open or selectable, the video unit's choices among them, and the readings of
R176 and R464 that the spec does not settle. -/
structure Params where
  region : Region
  interlace : Bool
  overscan : Bool
  irqLevelMode : Bool
  /-- INT_HOLD, 1 by D7 -/
  intHold : Nat
  /-- whether stack-relative addresses wrap within page 1 in emulation mode: R176 can be read so, R175's formula has no such
  case (DESIGN CHOICE, log entry 26) -/
  srPageWrap : Bool
  /-- whether a unit is moved on every one of the 128 lines of an HDMA header of 0x80, as R464's words say; R465's pseudocode
  moves one on the first line only (DESIGN CHOICE, log entry 27) -/
  hdmaRepeat128 : Bool
  dmaSyncOverhead : Nat
  dmaChannelOverhead : Nat
  resetClocks : Nat
  /-- RAM_INIT, the work-RAM content at power-on -/
  ramInit : List Host.Cell
  deriving DecidableEq, Repr

/-- What the host can do between two steps (R510, R620, R621, R118, D16). The configuration of the memory devices changes
only with a mapping change (R147): `load_cart()` and `unload_cart()` put it in and out, `power()` and `reset()` may set
write-protect flags, by device number. -/
inductive HostAction where
  /-- `power()`, with the write-protect flags set in it -/
  | power (protect : List (Nat × Bool))
  /-- `reset()`, with the write-protect flags set in it -/
  | reset (protect : List (Nat × Bool))
  /-- the host input layer writes `pad[0]` -/
  | pad0 (v : Word)
  /-- the host input layer writes `pad[1]` -/
  | pad1 (v : Word)
  /-- the cartridge's coprocessor drives the external interrupt input to a level -/
  | extIrq (level : Bool)
  /-- the video unit sets the length of the line -/
  | lineClocks (n : Nat)
  /-- the video unit sets interlace and overscan -/
  | video (interlace overscan : Bool)
  /-- `load_cart()` -/
  | loadCart (c : Cart)
  /-- `unload_cart()` -/
  | unloadCart
  deriving DecidableEq, Repr

/-- The whole state. -/
structure State where
  cpu : Cpu
  intr : Intr
  clk : Clock
  dma : Dma
  alu : Alu
  joy : Joypad
  io : Io
  bus : Bus
  ext : Ext
  sched : Sched
  params : Params
  /-- what the host does before each coming step, the next step's actions first; when empty it does nothing -/
  hostIn : List (List HostAction)
  deriving DecidableEq, Repr

/-- The machine never stops with a fault: "no illegal-instruction trap, no recoverable error and no fault inside the block"
(R15, R540). The type has no constructor, so that is so by its form. -/
inductive Fault where
  deriving DecidableEq, Repr

/-- Why a step has no meaning. Every refusal but the first is a configuration error: "A model's only refusals are at
configuration time" (R15, R120). -/
inductive Refusal where
  /-- raised by an arm of exec whose instruction has no meaning yet (none is left); safe -/
  | notModelled (mnemonic : String)
  /-- raised by a step whose host actions load a cartridge with an inadmissible `map()` call (R120); safe -/
  | badMapping
  /-- raised by a step whose host actions load a cartridge that claims an MMIO address already owned (R117, R120); safe -/
  | claimedTwice
  deriving DecidableEq, Repr

/-- An interrupt source at power and reset: every field 0 (R49). -/
def IntSource.init : IntSource :=
  { valid := false, flag := false, transition := false, pending := false, hold := 0 }

/-- A DMA channel at power: registers 0xFF, bits 0 (R60). -/
def Channel.power : Channel :=
  { dmap := 0xFF, bbad := 0xFF, a1t := 0xFFFF, a1b := 0xFF, das := 0xFFFF, dasb := 0xFF, a2a := 0xFFFF, ntrl := 0xFF
    unused := 0xFF, dmaEnabled := false, hdmaEnabled := false, hdmaCompleted := false, hdmaDoTransfer := false }

/-- The status byte 0x34 of power and reset (R30): M = X = I = 1, the others 0. -/
def Status.init : Status :=
  { n := false, v := false, m := true, x := true, d := false, i := true, z := false, c := false }

/-- The registers at power (R30). PC is loaded by the reset sequence; before it, it holds 0 (DESIGN CHOICE, log entry 1). -/
def Cpu.power : Cpu :=
  { a := 0, x := 0, y := 0, s := 0x01FF, d := 0, db := 0, pb := 0, pc := 0, p := Status.init, e := true, run := .run }

/-- Clock fields at power and reset (R47, R48, R68). -/
def Clock.init : Clock :=
  { clockCount := 0, lineClocks := Config.lineClocks, hcounter := 0, vcounter := 0, field := false
    dramRefreshPosition := Config.dramRefreshPos, dramRefreshed := false
    hdmaInitPosition := Config.hdmaInitPos, hdmaInitTriggered := false
    hdmaPosition := Config.hdmaRunPos, hdmaTriggered := false, quantumOver := false }

/-- The DMA engine at power (R51, R60). R51's "all 0" does not name the loop index of R448 and R454 (0: DESIGN CHOICE, log
entry 2), `running` and `maskI` (false: DESIGN CHOICE, log entry 25); the index and `maskI` are always written before they are
read. -/
def Dma.power : Dma :=
  { active := false, channel := 0, clocks := 0, index := 0, running := false, maskI := false, pending := false
    hdmaPending := false, hdmaMode := .init, channels := Vector.replicate 8 Channel.power }

/-- The multiply/divide unit at power and reset (R53). The captured operands have no stated value: 0 (DESIGN CHOICE, log
entry 2); they are always written before they are read. -/
def Alu.init : Alu :=
  { wrmpya := 0xFF, wrmpyb := 0xFF, wrdiv := 0xFFFF, wrdivb := 0xFF, rddiv := 0, rdmpy := 0, mpyctr := 0, divctr := 0
    mulA := 0, mulB := 0, divA := 0, divB := 0 }

/-- A serial port at power and reset (R52). -/
def SerialPort.init : SerialPort := { data := 0, index := 0 }

/-- The joypad fields at power and reset, with the host's words (R52, R517). -/
def Joypad.init (pad0 pad1 : Word) : Joypad :=
  { strobe := false, joy1 := 0, joy2 := 0, joy3 := 0, joy4 := 0, ser0 := SerialPort.init, ser1 := SerialPort.init
    autojoyBusy := 0, autojoyEn := false, pad0 := pad0, pad1 := pad1 }

/-- Interrupt fields at power and reset, with the external level (R46, R49, R54). -/
def Intr.init (vector : Word) (extIrq : Bool) (extIrqIn : List Bool) : Intr :=
  { nmi := IntSource.init, irq := IntSource.init, extIrq := extIrq, extIrqIn := extIrqIn, interruptPending := false
    interruptVector := vector, resetPending := true, virqEn := false, hirqEn := false, htime := 0x1FF, vtime := 0x1FF }

/-- WRIO, MEMSEL and WMADD at power (R55, R65). -/
def Io.power : Io := { wrio := 0xFF, memsel := false, wmadd := 0 }

/-- The fixed system mapping of R113, the last installed first. -/
def fixedMaps : List MapRequest :=
  [ { mode := .linear, bankLo := 0x7E, bankHi := 0x7F, addrLo := 0x0000, addrHi := 0xFFFF, dev := .wram, offset := 0, size := 0 }
  , { mode := .linear, bankLo := 0x80, bankHi := 0xBF, addrLo := 0x0000, addrHi := 0x1FFF, dev := .wram, offset := 0, size := 0x2000 }
  , { mode := .linear, bankLo := 0x00, bankHi := 0x3F, addrLo := 0x0000, addrHi := 0x1FFF, dev := .wram, offset := 0, size := 0x2000 }
  , { mode := .direct, bankLo := 0x80, bankHi := 0xBF, addrLo := 0x2000, addrHi := 0x5FFF, dev := .mmio, offset := 0, size := 0 }
  , { mode := .direct, bankLo := 0x00, bankHi := 0x3F, addrLo := 0x2000, addrHi := 0x5FFF, dev := .mmio, offset := 0, size := 0 }
  , { mode := .direct, bankLo := 0x00, bankHi := 0xFF, addrLo := 0x0000, addrHi := 0xFFFF, dev := .unmapped, offset := 0, size := 0 } ]

/-- The registers the owners of the block and its two fixed neighbours install (R55, R114, R117): the CPU's, the video
unit's and the audio coprocessor's. The CPU installs R114's whole ranges, 0x420E-0x420F and 0x43nC-0x43nE included, which
R55 calls unclaimed: they read MDR and ignore writes either way (R502), but a cartridge that claims one of them is refused
(DESIGN CHOICE, log entry 29). -/
def fixedClaims : List Claim :=
  [ { lo := 0x2180, hi := 0x2183, owner := .cpu }
  , { lo := 0x4016, hi := 0x4017, owner := .cpu }
  , { lo := 0x4200, hi := 0x421F, owner := .cpu }
  , { lo := 0x4300, hi := 0x437F, owner := .cpu }
  , { lo := 0x2100, hi := 0x213F, owner := .video }
  , { lo := 0x2140, hi := 0x217F, owner := .audio } ]

/-- The block right after `power()` with no cartridge (R620, R623): its first step runs the reset sequence (R622). The
parameters hold the spec's defaults; those it leaves OPEN hold values that log entry 4 names, and the
two that choose between readings those of log entries 26 and 27. -/
def State.reset : State :=
  { cpu := Cpu.power
    intr := Intr.init 0 false []
    clk := Clock.init
    dma := Dma.power
    alu := Alu.init
    joy := Joypad.init 0 0
    io := Io.power
    bus := { mdr := Config.openBusInit, wram := [], devices := [], maps := fixedMaps, mmio := fixedClaims, cart := none }
    ext := { freeCount := 0, events := [] }
    sched :=
      { running := .cpu
        audio := { freq := 1, clocks := 0, stepClocks := 1 }
        video := { freq := 1, clocks := 0, stepClocks := 1 }
        coprocs := [] }
    params :=
      { region := .ntsc, interlace := false, overscan := false, irqLevelMode := false, intHold := 1, srPageWrap := false
        hdmaRepeat128 := false
        dmaSyncOverhead := 0, dmaChannelOverhead := 0, resetClocks := 0, ramInit := [] }
    hostIn := [] }

end Sys2Proof.Machine
end

