-- ==== Sys2Proof/Machine/Memory.lean ====
section
/-! DEFINITION. Memory content (20_memory.md R66, R110): a list of address and byte pairs in one canonical form,
addresses strictly rising and no entry equal to the fill byte an unlisted address reads as. -/

namespace Sys2Proof.Machine

/-- What an unlisted address of any memory device reads as (D23). DESIGN CHOICE (unsafe), log entry 3. -/
def Memory.fill : Byte := Config.memFill

/-- The byte at an address. -/
def Memory.read : List Host.Cell → Nat → Byte
  | [], _ => Memory.fill
  | (b, v) :: m, a => if a = b then v else if a < b then Memory.fill else Memory.read m a

/-- The content with one byte written; writing the fill byte removes the entry. -/
def Memory.write : List Host.Cell → Nat → Byte → List Host.Cell
  | [], a, v => if v = Memory.fill then [] else [(a, v)]
  | (b, w) :: m, a, v =>
    if a < b then (if v = Memory.fill then (b, w) :: m else (a, v) :: (b, w) :: m)
    else if a = b then (if v = Memory.fill then m else (a, v) :: m)
    else (b, w) :: Memory.write m a v

/-- The canonical form of a content all of whose addresses are at least `low`. -/
def Memory.wfFrom : Nat → List Host.Cell → Bool
  | _, [] => true
  | low, (a, v) :: m => decide (low ≤ a) && (v != Memory.fill) && Memory.wfFrom (a + 1) m

/-- The canonical form: addresses strictly rising, no entry equal to the fill byte. -/
def Memory.wf (m : List Host.Cell) : Bool := Memory.wfFrom 0 m

/-- A device read (R110). -/
def MemDevice.read (d : MemDevice) (i : Nat) : Byte := Memory.read d.cells i

/-- A device write: a no-op on patchable storage while it is write-protected (R110). -/
def MemDevice.write (d : MemDevice) (i : Nat) (v : Byte) : MemDevice :=
  if d.patchable && d.writeProtect then d else { d with cells := Memory.write d.cells i v }

/-- Device k of the cartridge with its content changed by f. -/
def modifyDevice (f : MemDevice → MemDevice) : List MemDevice → Nat → List MemDevice
  | [], _ => []
  | d :: ds, 0 => f d :: ds
  | d :: ds, k + 1 => d :: modifyDevice f ds k

end Sys2Proof.Machine
end

