-- ==== Sys2Proof/Machine/AddressDecoder.lean ====
section
/-! DEFINITION. The address decoder (20_memory.md R101-R121): the mirror fold, the page-table entry a `map()` call
installs, the resolution of a bus address, the MMIO dispatch table, the bus-cycle lengths, and the configuration checks.
The page table is the list of `map()` calls, newest first; an entry is computed from the newest call that covers its
page, with R107's and R108's running index in closed form (an obligation states it equal to their loops). -/

namespace Sys2Proof.Machine

/-- What a bus address resolves to: the device and the in-device index (R102). The sentinel and the dispatcher, installed
in Direct mode, have the bus address itself as their index (R106). -/
inductive Target where
  | unmapped (i : Nat)
  | mmio (i : Nat)
  | wram (i : Nat)
  | dev (k : Nat) (i : Nat)
  deriving DecidableEq, Repr

/-- Whether a bus address resolves to the MMIO dispatcher. -/
def Target.isRegister : Target → Bool
  | .mmio _ => true
  | _ => false

/-- The loop of R109 over the remaining mask bits k-1 .. 0. -/
def mirrorLoop : Nat → Nat → Nat → Nat → Nat
  | 0, addr, _, base => base + addr
  | k + 1, addr, size, base =>
    if addr < size then base + addr
    else if addr / 2 ^ k % 2 = 1 then
      if 2 ^ k < size then mirrorLoop k (addr - 2 ^ k) (size - 2 ^ k) (base + 2 ^ k)
      else mirrorLoop k (addr - 2 ^ k) size base
    else mirrorLoop k addr size base

/-- `mirror(addr, size)` on 24-bit naturals (R109). A `map()` call's offset is not bounded, so its sum with an index can be
2^24 or more, for which R109 says nothing: the sum is cut to 24 bits (DESIGN CHOICE, log entry 34). -/
def mirror (addr size : Nat) : Nat :=
  if size = 0 then 0 else mirrorLoop 24 (addr % 2 ^ 24) size 0

/-- The page of an address within its bank. -/
def pageOf (addr : Nat) : Nat := addr / 256 % 256

/-- The running index wrapped at the call's `size`; 0 means no wrap (R105, R107). -/
def wrapIndex (size i : Nat) : Nat := if size = 0 then i else i % size

/-- R107's and R108's running index at (bank, page). -/
def MapRequest.index (r : MapRequest) (bank page : Nat) : Nat :=
  match r.mode with
  | .direct => bank * 65536 + page * 256
  | .linear =>
    wrapIndex r.size (((bank - r.bankLo) * (pageOf r.addrHi - pageOf r.addrLo + 1) + (page - pageOf r.addrLo)) * 256)
  | .shadow => wrapIndex r.size ((bank - r.bankLo) * 65536 + page * 256)

/-- Whether a call installs the page of a bus address (R105). -/
def MapRequest.covers (r : MapRequest) (a : Nat) : Bool :=
  decide (r.bankLo ≤ a / 65536) && decide (a / 65536 ≤ r.bankHi) &&
    decide (pageOf r.addrLo ≤ pageOf a) && decide (pageOf a ≤ pageOf r.addrHi)

/-- The device size a page-table entry is computed with. The sentinel and the dispatcher span the address space; a size of
theirs counts only where a cartridge maps one of them in Linear or Shadow mode (DESIGN CHOICE, log entry 30). -/
def deviceSize (devices : List MemDevice) : DevRef → Nat
  | .unmapped => 2 ^ 24
  | .mmio => 2 ^ 24
  | .wram => Config.wramSize
  | .cart k => match devices[k]? with | some d => d.size | none => 0

/-- The in-device index of an address under a call: the entry's base plus a[7:0] (R102, R106-R108). -/
def MapRequest.target (r : MapRequest) (devSize a : Nat) : Nat :=
  match r.mode with
  | .direct => r.index (a / 65536) (pageOf a) + a % 256
  | .linear | .shadow => mirror (r.offset + r.index (a / 65536) (pageOf a)) devSize + a % 256

/-- `resolve(a)` (R102). An index at or above the device's size, which R111 rules out and which an admitted call reaches
only with an offset or a size that is no multiple of 256, is read as the unmapped sentinel (DESIGN CHOICE, log entry
6). -/
def Bus.resolve (b : Bus) (a : Addr) : Target :=
  match b.maps.find? (fun r => r.covers a.toNat) with
  | none => .unmapped a.toNat
  | some r =>
    let i := r.target (deviceSize b.devices r.dev) a.toNat
    match r.dev with
    | .unmapped => .unmapped i
    | .mmio => .mmio i
    | .wram => if i < Config.wramSize then .wram i else .unmapped a.toNat
    | .cart k => if i < deviceSize b.devices (.cart k) then .dev k i else .unmapped a.toNat

/-- `is_mirror(a1, a2)`: the same device and the same in-device index (R112). -/
def Bus.isMirror (b : Bus) (a1 a2 : Addr) : Bool := decide (b.resolve a1 = b.resolve a2)

/-- The owner of an MMIO register address, if one claims it (R115-R117). The bank is ignored (R115). A claim outside the
window 0x2000-0x5FFF, reached where a cartridge maps the dispatcher at other offsets, is dispatched like any other (DESIGN
CHOICE, log entry 30). -/
def Bus.owner (b : Bus) (a : Addr) : Option AgentId :=
  (b.mmio.find? (fun c => decide (c.lo ≤ (offOf a).toNat) && decide ((offOf a).toNat ≤ c.hi))).map Claim.owner

/-- `SPEED(a)` (R125). -/
def speed (memsel : Bool) (a : Addr) : Nat :=
  let bank := a.toNat / 65536
  let off := a.toNat % 65536
  let rom := if memsel then 6 else 8
  if bank % 128 < 0x40 then
    if off < 0x2000 then 8
    else if off < 0x4000 then 6
    else if off < 0x4200 then 12
    else if off < 0x6000 then 6
    else if off < 0x8000 then 8
    else if bank < 0x40 then 8 else rom
  else if bank < 0x80 then 8 else rom

/-- The bytes of storage a memory target holds: none for the sentinel and the MMIO dispatcher. -/
def Bus.stored (b : Bus) : Target → Option Byte
  | .unmapped _ => none
  | .mmio _ => none
  | .wram i => some (Memory.read b.wram i)
  | .dev k i => (b.devices[k]?).map (fun d => d.read i)

/-- The memory devices with one byte written (R110); the sentinel and the dispatcher hold nothing. -/
def Bus.store (b : Bus) (v : Byte) : Target → Bus
  | .unmapped _ => b
  | .mmio _ => b
  | .wram i => { b with wram := Memory.write b.wram i v }
  | .dev k i => { b with devices := modifyDevice (fun d => d.write i v) b.devices k }

/-- The byte of storage at a bus address: the model's read of one byte without a bus cycle; none where the address
resolves to no memory device. -/
def Bus.byteAt (b : Bus) (a : Addr) : Option Byte := b.stored (b.resolve a)

/-- Whether a `map()` call is admitted (R105's preconditions, R120, D4). -/
def MapRequest.admitted (devices : List MemDevice) (r : MapRequest) : Bool :=
  decide (r.bankLo ≤ r.bankHi) && decide (r.bankHi ≤ 0xFF) && decide (r.addrLo ≤ r.addrHi) && decide (r.addrHi ≤ 0xFFFF) &&
    decide (deviceSize devices r.dev ≠ 0) &&
    (match r.mode, r.dev with
     | .direct, .unmapped | .direct, .mmio => true
     | .direct, _ => decide (r.bankHi * 65536 + pageOf r.addrHi * 256 + 255 < deviceSize devices r.dev)
     | _, _ => decide (deviceSize devices r.dev % 256 = 0))

/-- Whether two claims share an address. -/
def Claim.overlaps (c1 c2 : Claim) : Bool := decide (c1.lo ≤ c2.hi) && decide (c2.lo ≤ c1.hi)

/-- Whether no register address is claimed twice (R117, R120). R120's error is a second owner; two claims of one address by one
owner are refused too (DESIGN CHOICE, log entry 31). -/
def claimsDistinct : List Claim → Bool
  | [] => true
  | c :: cs => cs.all (fun c' => !c.overlaps c') && claimsDistinct cs

end Sys2Proof.Machine
end

