-- ==== Sys2Proof/Machine/Interrupts.lean ====
section
/-! DEFINITION. The interrupt source machines (60_exceptions.md R545-R555): raising and lowering the flags, the NMITIMEN
write, the raster compare, and the poll. -/

namespace Sys2Proof.Machine

/-- `irq.line = irq_flag OR ext_irq` (R551). -/
def Intr.irqLine (t : Intr) : Bool := t.irq.flag || t.extIrq

/-- `nmi.line` rises; a rise while valid is an edge (R546, R549). -/
def IntSource.raiseNmi (s : IntSource) : IntSource :=
  if s.flag then s else { s with flag := true, transition := s.transition || s.valid }

/-- `irq_flag` rises; the compare fires only while enabled, so every rise is an edge (R551). -/
def IntSource.raiseIrq (s : IntSource) : IntSource :=
  if s.flag then s else { s with flag := true, transition := true }

/-- `irq.valid` (R503). -/
def Intr.irqValid (virq hirq : Bool) : Bool := virq || hirq

/-- The NMI part of a write of NMITIMEN with bit 7 = en (R503, R548). -/
def IntSource.enableNmi (s : IntSource) (en : Bool) : IntSource :=
  { s with valid := en, transition := s.transition || (!s.valid && en && s.flag) }

/-- The IRQ part of a write of NMITIMEN (R503): a V-only enable re-arms a set flag; disabling both acknowledges. -/
def IntSource.enableIrq (s : IntSource) (virq hirq : Bool) : IntSource :=
  let s := { s with valid := Intr.irqValid virq hirq }
  let s := if virq && !hirq && s.flag then { s with transition := true } else s
  if !virq && !hirq then { s with flag := false, transition := false } else s

/-- A TIMEUP read acknowledges the raster IRQ (R507, R552). -/
def IntSource.acknowledge (s : IntSource) : IntSource :=
  { s with flag := false, transition := false, hold := 0, pending := false }

/-- Whether the raster compare fires at (h, v) (R553). -/
def Intr.rasterHit (t : Intr) (h v : Nat) : Bool :=
  let htarget := 4 * t.htime.toNat + Config.hirqOffset
  match t.virqEn, t.hirqEn with
  | false, false => false
  | true, false => decide (v = t.vtime.toNat) && decide (h = Config.virqPos)
  | false, true => decide (h = htarget)
  | true, true => decide (v = t.vtime.toNat) && decide (h = htarget)

/-- The raster compare at (h, v) (R553). -/
def Intr.raster (t : Intr) (h v : Nat) : Intr :=
  if t.rasterHit h v then { t with irq := t.irq.raiseIrq } else t

/-- The first half of a poll: the hold counter (R550). -/
def IntSource.pollHold (s : IntSource) : IntSource :=
  if s.hold = 0 then s
  else { s with hold := s.hold - 1, pending := s.pending || decide (s.hold - 1 = 0) }

/-- The second half of a poll: the detected edge (R550). -/
def IntSource.pollEdge (intHold : Nat) (s : IntSource) : IntSource :=
  if s.transition then
    if intHold = 0 then { s with transition := false, pending := true } else { s with transition := false, hold := intHold }
  else s

/-- `poll(s)` (R550). -/
def IntSource.poll (intHold : Nat) (s : IntSource) : IntSource := s.pollHold.pollEdge intHold

/-- The external level at this poll: the next input, if there is one (U14); 0 when no coprocessor is attached (R551). -/
def Intr.takeExtIrq (attached : Bool) (t : Intr) : Intr :=
  match t.extIrqIn with
  | [] => { t with extIrq := attached && t.extIrq }
  | b :: bs => { t with extIrq := attached && b, extIrqIn := bs }

/-- The re-arm checks before a poll (R554, R555). -/
def Intr.rearm (levelMode : Bool) (t : Intr) : Intr :=
  let idle := !t.irq.pending && decide (t.irq.hold = 0)
  if idle && ((levelMode && t.irq.flag && t.irq.valid) || t.extIrq) then
    { t with irq := { t.irq with transition := true } }
  else t

/-- The poll of both sources, nmi then irq, with the re-arm checks before it (R550, R587); `attached` says whether a
coprocessor drives the external input, `maskI` is P.I. -/
def Intr.poll (p : Params) (attached maskI : Bool) (t : Intr) : Intr :=
  let t := (t.takeExtIrq attached).rearm p.irqLevelMode
  let t := { t with nmi := t.nmi.poll p.intHold, irq := t.irq.poll p.intHold }
  { t with interruptPending := t.resetPending || t.nmi.pending || (t.irq.pending && !maskI) }

end Sys2Proof.Machine
end

