-- ==== Sys2Proof/Machine/Joypads.lean ====
section
/-! DEFINITION. The joypad ports (46_cpu_io.md R510-R517): latching, serial reads, and the auto-poll. -/

namespace Sys2Proof.Machine

/-- `latch(p)`: the port takes the host word and starts at its first bit (R511). -/
def SerialPort.latch (pad : Word) : SerialPort := { data := pad, index := 0 }

/-- One serial read of a port: the bit, and the port after it (R513). -/
def SerialPort.bit (strobe : Bool) (pad : Word) (p : SerialPort) : Bool × SerialPort :=
  let p := if strobe then SerialPort.latch pad else p
  if p.index < 16 then
    (p.data.getLsbD (15 - p.index), if strobe then p else { p with index := p.index + 1 })
  else (true, p)

/-- Write of JOYWR: bit 0 is the strobe; a 1 latches both ports at once (R512). -/
def Joypad.writeStrobe (j : Joypad) (v : Byte) : Joypad :=
  if v.getLsbD 0 then
    { j with strobe := true, ser0 := SerialPort.latch j.pad0, ser1 := SerialPort.latch j.pad1 }
  else { j with strobe := false }

/-- The auto-poll event (R514). -/
def Joypad.autoPoll (j : Joypad) : Joypad :=
  if j.autojoyEn then
    { j with
      ser0 := { data := j.pad0, index := 16 }, ser1 := { data := j.pad1, index := 16 }
      joy1 := j.pad0, joy2 := j.pad1, joy3 := 0, joy4 := 0
      autojoyBusy := Config.autojoyBusyClocks }
  else j

end Sys2Proof.Machine
end

