-- ==== Sys2Proof/Machine/MulDiv.lean ====
section
/-! DEFINITION. The multiply/divide unit (46_cpu_io.md R490-R499). -/

namespace Sys2Proof.Machine

/-- The unit is busy while a countdown runs (R490). -/
def Alu.busy (u : Alu) : Bool := decide (u.mpyctr ≠ 0) || decide (u.divctr ≠ 0)

/-- Write of WRMPYB: starts a multiply if the unit is idle (R492). -/
def Alu.writeMpyB (u : Alu) (v : Byte) : Alu :=
  if u.busy then { u with wrmpyb := v }
  else { u with wrmpyb := v, mulA := u.wrmpya, mulB := v, mpyctr := Config.mpyLatency }

/-- Write of WRDIVB: starts a divide if the unit is idle (R495). -/
def Alu.writeDivB (u : Alu) (v : Byte) : Alu :=
  if u.busy then { u with wrdivb := v }
  else { u with wrdivb := v, divA := u.wrdiv, divB := v, divctr := Config.divLatency }

/-- The product is posted (R493). -/
def Alu.postProduct (u : Alu) : Alu :=
  { u with rdmpy := zext u.mulA * zext u.mulB, rddiv := zext u.mulB }

/-- Quotient and remainder are posted together; a zero divisor gives the sentinel pair (R496). -/
def Alu.postQuotient (u : Alu) : Alu :=
  if u.divB = 0 then { u with rddiv := 0xFFFF, rdmpy := u.divA }
  else { u with rddiv := u.divA / zext u.divB, rdmpy := u.divA % zext u.divB }

/-- The multiply half of an ALU tick (R498). -/
def Alu.tickMpy (u : Alu) : Alu :=
  if u.mpyctr = 0 then u
  else
    let u := { u with mpyctr := u.mpyctr - 1 }
    if u.mpyctr = 0 then u.postProduct else u

/-- The divide half of an ALU tick (R498). -/
def Alu.tickDiv (u : Alu) : Alu :=
  if u.divctr = 0 then u
  else
    let u := { u with divctr := u.divctr - 1 }
    if u.divctr = 0 then u.postQuotient else u

/-- One ALU tick (R498). -/
def Alu.tick (u : Alu) : Alu := u.tickMpy.tickDiv

end Sys2Proof.Machine
end

