-- ==== Sys2Proof/Machine/Time.lean ====
section
/-! DEFINITION. Time (60_exceptions.md R580-R591): one master clock, the per-line events, `spend`, and the poll and ALU
tick of a cycle event. -/

namespace Sys2Proof.Machine

/-- VDISP, chosen by the video unit's overscan setting (R8). -/
def Params.vdisp (p : Params) : Nat := if p.overscan then Config.vdispOverscan else Config.vdispNormal

/-- LINES_PER_FRAME of the region (R8). -/
def Params.linesPerFrame (p : Params) : Nat :=
  match p.region with
  | .ntsc => Config.linesNtsc
  | .pal => Config.linesPal

/-- FREQ(CPU) of the region (R8). -/
def Params.cpuFreq (p : Params) : Nat :=
  match p.region with
  | .ntsc => Config.freqNtsc
  | .pal => Config.freqPal

/-- `lines_in_frame(field)`: one more on odd interlaced fields (R586). -/
def Params.linesInFrame (p : Params) (field : Bool) : Nat :=
  p.linesPerFrame + (if p.interlace && field then 1 else 0)

/-- The counters of one master clock (R586). The line ends exactly when `hcounter` reaches `lineClocks`, and the frame when
`vcounter` reaches its number of lines: a limit the video unit puts below a counter is not met (DEDUCED, log entry 7). -/
def Clock.advance (p : Params) (c : Clock) : Clock :=
  if c.hcounter + 1 = c.lineClocks then
    let c := { c with clockCount := c.clockCount + 1, hcounter := 0
                      dramRefreshed := false, hdmaTriggered := false, hdmaInitTriggered := false }
    if c.vcounter + 1 = p.linesInFrame c.field then { c with vcounter := 0, field := !c.field }
    else { c with vcounter := c.vcounter + 1 }
  else { c with clockCount := c.clockCount + 1, hcounter := c.hcounter + 1 }

/-- Counters and the auto-joypad busy window, one master clock (R586). -/
def advance (s : State) : State :=
  { s with clk := s.clk.advance s.params, joy := { s.joy with autojoyBusy := s.joy.autojoyBusy - 1 } }

/-- R590's DRAM-refresh condition. -/
def refreshDue (s : State) : Bool :=
  decide (s.clk.hcounter = s.clk.dramRefreshPosition) && !s.clk.dramRefreshed

/-- R590: the refresh sets its "already triggered this line" flag. Its stall is `clock`'s. -/
def eventRefresh (s : State) : State :=
  if refreshDue s then { s with clk := { s.clk with dramRefreshed := true } } else s

/-- The frame's reset of a channel's HDMA bits (R462). -/
def Channel.frameStart (c : Channel) : Channel := { c with hdmaCompleted := false, hdmaDoTransfer := false }

/-- `hdma_active(n)` (R461). -/
def Channel.hdmaActive (c : Channel) : Bool := c.hdmaEnabled && !c.hdmaCompleted

/-- Every channel changed by f. -/
def mapChannels (f : Channel → Channel) (cs : Vector Channel 8) : Vector Channel 8 :=
  ⟨(cs.toList.map f).toArray, by simp⟩

/-- Some channel of the engine satisfies a condition. -/
def Dma.any (d : Dma) (f : Channel → Bool) : Bool := d.channels.toList.any f

/-- R590 HDMA init (R462). -/
def eventHdmaInit (s : State) : State :=
  if decide (s.clk.vcounter = 0) && decide (s.clk.hcounter = s.clk.hdmaInitPosition) && !s.clk.hdmaInitTriggered then
    let d := { s.dma with channels := mapChannels Channel.frameStart s.dma.channels }
    let d := if d.any Channel.hdmaEnabled then { d with hdmaPending := true, hdmaMode := .init } else d
    { s with clk := { s.clk with hdmaInitTriggered := true }, dma := d }
  else s

/-- R590 HDMA run. -/
def eventHdmaRun (s : State) : State :=
  if decide (s.clk.vcounter < s.params.vdisp) && decide (s.clk.hcounter = s.clk.hdmaPosition) && !s.clk.hdmaTriggered then
    let d := if s.dma.any Channel.hdmaActive then { s.dma with hdmaPending := true, hdmaMode := .run } else s.dma
    { s with clk := { s.clk with hdmaTriggered := true }, dma := d }
  else s

/-- R590 NMI (R546). -/
def eventNmi (s : State) : State :=
  if decide (s.clk.vcounter = s.params.vdisp) && decide (s.clk.hcounter = Config.nmiPos) then
    { s with intr := { s.intr with nmi := s.intr.nmi.raiseNmi } }
  else s

/-- R590 auto-joypad (R514). -/
def eventAutojoy (s : State) : State :=
  if decide (s.clk.vcounter = s.params.vdisp) && decide (s.clk.hcounter = Config.autojoyPos) then
    { s with joy := s.joy.autoPoll }
  else s

/-- R590 frame start (R547). It is also where the host's run quantum ends (R597). -/
def eventFrameStart (s : State) : State :=
  if decide (s.clk.vcounter = 0) && decide (s.clk.hcounter = 0) then
    { s with intr := { s.intr with nmi := { s.intr.nmi with flag := false } }, clk := { s.clk with quantumOver := true } }
  else s

/-- `per_line_events()`, in the order of R590's table. -/
def lineEvents (s : State) : State :=
  eventFrameStart (eventAutojoy (eventNmi (eventHdmaRun (eventHdmaInit (eventRefresh s)))))

/-- `raster_compare()` (R553). -/
def rasterCompare (s : State) : State :=
  { s with intr := s.intr.raster s.clk.hcounter s.clk.vcounter }

/-- One master clock without the refresh stall (R586). -/
def clockBare (s : State) : State := rasterCompare (lineEvents (advance s))

/-- f applied n times. -/
def iterate (f : State → State) : Nat → State → State
  | 0, s => s
  | n + 1, s => iterate f n (f s)

/-- One master clock (R586). A DRAM refresh that falls due stalls CPU and DMA: the time of the stall passes before the
cycle goes on (R590). A refresh that falls due inside that stall adds no stall of its own; with the spec's positions
none does (DESIGN CHOICE, log entry 8). -/
def clock (s : State) : State :=
  if refreshDue (advance s) then iterate clockBare Config.dramRefreshClocks (clockBare s) else clockBare s

/-- `spend(k)` (R586). -/
def spend (k : Nat) (s : State) : State := iterate clock k s

/-- The ALU tick of a cycle event (R498). -/
def aluTick (s : State) : State := { s with alu := s.alu.tick }

/-- Whether a cartridge coprocessor is attached, to drive the external interrupt input (R551). -/
def State.extAttached (s : State) : Bool := !s.sched.coprocs.isEmpty

/-- P.I as a poll sees it: while the controller owns the bus the CPU is suspended, and P.I is what it was as the controller took
the bus (R441, R447; DEDUCED, log entry 25). -/
def State.pollMask (s : State) : Bool := if s.dma.active then s.dma.maskI else s.cpu.p.i

/-- The interrupt poll of a cycle event (R550, R587). -/
def poll (s : State) : State := { s with intr := s.intr.poll s.params s.extAttached s.pollMask }

end Sys2Proof.Machine
end

