-- ==== Sys2Proof/Machine/Scheduler.lean ====
section
/-! DEFINITION. The cooperative scheduler as the CPU sees it (60_exceptions.md R595-R601): local times and
`synchronize`. Local time is a rational number of seconds, own clocks over frequency; two local times are compared by
cross multiplication. The other agents' internals are outside the block (R6): a step of one advances its clock and
nothing else here. -/

namespace Sys2Proof.Machine

/-- The clocks a step of an agent takes, at least one: an agent whose steps took no time could never catch up. -/
def Agent.step1 (g : Agent) : Nat := if g.stepClocks = 0 then 1 else g.stepClocks

/-- `t[g] < t[CPU]`, both in seconds (R596): the agent lags a CPU that has executed `cpuClocks` at `cpuFreq`. -/
def Agent.lags (g : Agent) (cpuFreq cpuClocks : Nat) : Bool :=
  decide (g.clocks * cpuFreq < cpuClocks * g.freq)

/-- The number of steps after which the agent no longer lags: the loop count of R598. -/
def Agent.stepsToCatchUp (g : Agent) (cpuFreq cpuClocks : Nat) : Nat :=
  if cpuFreq = 0 then 0
  else (cpuClocks * g.freq - g.clocks * cpuFreq + (g.step1 * cpuFreq - 1)) / (g.step1 * cpuFreq)

/-- `while t[X] < t[c]: run X for one of its steps` (R598). -/
def Agent.catchUp (g : Agent) (cpuFreq cpuClocks : Nat) : Agent :=
  { g with clocks := g.clocks + g.stepsToCatchUp cpuFreq cpuClocks * g.step1 }

/-- The agent k of a list changed by f. -/
def modifyAgent (f : Agent → Agent) : List Agent → Nat → List Agent
  | [], _ => []
  | g :: gs, 0 => f g :: gs
  | g :: gs, k + 1 => g :: modifyAgent f gs k

/-- `synchronize(CPU, X)` (R598): the CPU waits, and its own time stands still; when it goes on, `running` is the CPU
again. Synchronizing with itself does nothing. -/
def synchronize (x : AgentId) (s : State) : State :=
  let f := fun (g : Agent) => g.catchUp s.params.cpuFreq s.clk.clockCount
  match x with
  | .cpu => s
  | .audio => { s with sched := { s.sched with audio := f s.sched.audio, running := .cpu } }
  | .video => { s with sched := { s.sched with video := f s.sched.video, running := .cpu } }
  | .coproc k => { s with sched := { s.sched with coprocs := modifyAgent f s.sched.coprocs k, running := .cpu } }

end Sys2Proof.Machine
end

