-- ==== Sys2Proof/Machine/Registers.lean ====
section
/-! DEFINITION. The MMIO registers (10_state.md R55, R56, R60; 46_cpu_io.md R490-R517; 45_dma_hdma.md R446, R460, R470)
and the accesses that leave the block (60_exceptions.md R599, R605). A read answers the byte and the state after its
side effect; a write takes effect at once. MDR is set by the bus (Machine/Bus.lean), after the access. -/

namespace Sys2Proof.Machine

/-- Channel n of the DMA engine. -/
def State.ch (s : State) (n : Fin 8) : Channel := s.dma.channels[n]

/-- Channel n changed by f. -/
def State.updCh (s : State) (n : Fin 8) (f : Channel → Channel) : State :=
  { s with dma := { s.dma with channels := s.dma.channels.set n (f s.dma.channels[n]) } }

/-- Read of channel register r (R60); registers 0xC-0xE read MDR. -/
def Channel.readReg (c : Channel) (mdr : Byte) (r : Nat) : Byte :=
  match r with
  | 0x0 => c.dmap
  | 0x1 => c.bbad
  | 0x2 => lo c.a1t
  | 0x3 => hi c.a1t
  | 0x4 => c.a1b
  | 0x5 => lo c.das
  | 0x6 => hi c.das
  | 0x7 => c.dasb
  | 0x8 => lo c.a2a
  | 0x9 => hi c.a2a
  | 0xA => c.ntrl
  | 0xB => c.unused
  | 0xF => c.unused
  | _ => mdr

/-- Write of channel register r (R60); writes to 0xC-0xE are ignored. -/
def Channel.writeReg (c : Channel) (r : Nat) (v : Byte) : Channel :=
  match r with
  | 0x0 => { c with dmap := v }
  | 0x1 => { c with bbad := v }
  | 0x2 => { c with a1t := word (hi c.a1t) v }
  | 0x3 => { c with a1t := word v (lo c.a1t) }
  | 0x4 => { c with a1b := v }
  | 0x5 => { c with das := word (hi c.das) v }
  | 0x6 => { c with das := word v (lo c.das) }
  | 0x7 => { c with dasb := v }
  | 0x8 => { c with a2a := word (hi c.a2a) v }
  | 0x9 => { c with a2a := word v (lo c.a2a) }
  | 0xA => { c with ntrl := v }
  | 0xB => { c with unused := v }
  | 0xF => { c with unused := v }
  | _ => c

/-- `WMADD <- (WMADD + 1) mod 2^17` (R500). -/
def bumpWmadd (s : State) : State := { s with io := { s.io with wmadd := s.io.wmadd + 1 } }

/-- WMDATA read (R500). -/
def readWmdata (s : State) : Byte × State :=
  (Memory.read s.bus.wram s.io.wmadd.toNat, bumpWmadd s)

/-- WMDATA write (R500). -/
def writeWmdata (v : Byte) (s : State) : State :=
  bumpWmadd { s with bus := { s.bus with wram := Memory.write s.bus.wram s.io.wmadd.toNat v } }

/-- WMADD with its low, middle or high part written (R501). -/
def wmaddLow (w : BitVec 17) (v : Byte) : BitVec 17 := w.extractLsb' 8 9 ++ v
/-- WMADDM (R501). -/
def wmaddMid (w : BitVec 17) (v : Byte) : BitVec 17 := w.extractLsb' 16 1 ++ (v ++ w.setWidth 8)
/-- WMADDH: only bit 0 is kept (R501, R56). -/
def wmaddHigh (w : BitVec 17) (v : Byte) : BitVec 17 := BitVec.ofBool (v.getLsbD 0) ++ w.setWidth 16

/-- The low byte of a 9-bit raster position (R509). -/
def posLow (w : BitVec 9) (v : Byte) : BitVec 9 := w.extractLsb' 8 1 ++ v
/-- Bit 8 of a 9-bit raster position (R509, R56). -/
def posHigh (w : BitVec 9) (v : Byte) : BitVec 9 := BitVec.ofBool (v.getLsbD 0) ++ w.setWidth 8

/-- JOYA read: bits 7:2 open bus, bit 1 zero, bit 0 the serial bit of port 0 (R513). -/
def readJoyA (s : State) : Byte × State :=
  let (b, p) := s.joy.ser0.bit s.joy.strobe s.joy.pad0
  (s.bus.mdr.extractLsb' 2 6 ++ (0#1 ++ BitVec.ofBool b), { s with joy := { s.joy with ser0 := p } })

/-- JOYB read: bits 7:5 open bus, 4:2 ones, bit 1 zero, bit 0 the serial bit of port 1 (R513). -/
def readJoyB (s : State) : Byte × State :=
  let (b, p) := s.joy.ser1.bit s.joy.strobe s.joy.pad1
  (s.bus.mdr.extractLsb' 5 3 ++ (0b111#3 ++ (0#1 ++ BitVec.ofBool b)), { s with joy := { s.joy with ser1 := p } })

/-- RDNMI read: the flag, open bus, the CPU version; the read clears the flag (R506). -/
def readRdnmi (s : State) : Byte × State :=
  (BitVec.ofBool s.intr.nmi.flag ++ (s.bus.mdr.extractLsb' 4 3 ++ Config.cpuVersion),
   { s with intr := { s.intr with nmi := { s.intr.nmi with flag := false } } })

/-- TIMEUP read: the flag and open bus; the read acknowledges the raster IRQ (R507). -/
def readTimeup (s : State) : Byte × State :=
  (BitVec.ofBool s.intr.irq.flag ++ s.bus.mdr.extractLsb' 0 7,
   { s with intr := { s.intr with irq := s.intr.irq.acknowledge } })

/-- `vblank` (R508). -/
def State.vblank (s : State) : Bool := decide (s.params.vdisp ≤ s.clk.vcounter)
/-- `hblank` (R508). -/
def State.hblank (s : State) : Bool :=
  decide (s.clk.hcounter ≤ Config.hblankHi) || decide (Config.hblankLo ≤ s.clk.hcounter)

/-- HVBJOY read (R508). -/
def readHvbjoy (s : State) : Byte :=
  BitVec.ofBool s.vblank ++ (BitVec.ofBool s.hblank ++
    (s.bus.mdr.extractLsb' 1 5 ++ BitVec.ofBool (decide (s.joy.autojoyBusy ≠ 0))))

/-- Write of NMITIMEN (R503). -/
def writeNmitimen (v : Byte) (s : State) : State :=
  let virq := v.getLsbD 5
  let hirq := v.getLsbD 4
  { s with
    intr := { s.intr with
      virqEn := virq, hirqEn := hirq
      nmi := s.intr.nmi.enableNmi (v.getLsbD 7), irq := s.intr.irq.enableIrq virq hirq }
    joy := { s.joy with autojoyEn := v.getLsbD 0 } }

/-- Write of WRIO: a fall of bit 7 sends the counter-latch signal to the video unit (R504, R605). -/
def writeWrio (v : Byte) (s : State) : State :=
  let s' := { s with io := { s.io with wrio := v } }
  if s.io.wrio.getLsbD 7 && !v.getLsbD 7 then
    { s' with ext := { s'.ext with events := .counterLatch :: s'.ext.events } }
  else s'

/-- The DMA channel numbers in ascending order. -/
def channelNumbers : List (Fin 8) := [0, 1, 2, 3, 4, 5, 6, 7]

/-- The channels with one bit of v each put in by f. -/
def spreadBits (f : Bool → Channel → Channel) (v : Byte) (cs : Vector Channel 8) : Vector Channel 8 :=
  ⟨(List.zipWith (fun (i : Fin 8) c => f (v.getLsbD i) c) channelNumbers cs.toList).toArray,
    by simp [channelNumbers]⟩

/-- Write of MDMAEN (R446). The bits of a channel whose DMA is running are written too, and R448's loop then looks at them: a
byte of that DMA that writes MDMAEN, through a cartridge's mapping of the dispatcher, can stop the channel, where R446 says
that a running DMA has copied the bits (DEDUCED, log entry 35). -/
def writeMdmaen (v : Byte) (s : State) : State :=
  { s with dma := { s.dma with
      channels := spreadBits (fun b c => { c with dmaEnabled := b }) v s.dma.channels
      pending := s.dma.pending || decide (v ≠ 0) } }

/-- Write of HDMAEN (R460). -/
def writeHdmaen (v : Byte) (s : State) : State :=
  { s with dma := { s.dma with channels := spreadBits (fun b c => { c with hdmaEnabled := b }) v s.dma.channels } }

/-- The channel number of a register address 0x43n0-0x43nF: bits 6:4 (R60). -/
def channelOf (o : Nat) : Fin 8 := Fin.ofNat 8 (o / 16)

/-- Read of the CPU's own register at offset o (R55): write-only and unclaimed registers read MDR. -/
def readCpuReg (o : Nat) (s : State) : Byte × State :=
  if 0x4300 ≤ o ∧ o ≤ 0x437F then ((s.ch (channelOf o)).readReg s.bus.mdr (o % 16), s)
  else
    match o with
    | 0x2180 => readWmdata s
    | 0x4016 => readJoyA s
    | 0x4017 => readJoyB s
    | 0x4210 => readRdnmi s
    | 0x4211 => readTimeup s
    | 0x4212 => (readHvbjoy s, s)
    | 0x4213 => (s.io.wrio, s)
    | 0x4214 => (lo s.alu.rddiv, s)
    | 0x4215 => (hi s.alu.rddiv, s)
    | 0x4216 => (lo s.alu.rdmpy, s)
    | 0x4217 => (hi s.alu.rdmpy, s)
    | 0x4218 => (lo s.joy.joy1, s)
    | 0x4219 => (hi s.joy.joy1, s)
    | 0x421A => (lo s.joy.joy2, s)
    | 0x421B => (hi s.joy.joy2, s)
    | 0x421C => (lo s.joy.joy3, s)
    | 0x421D => (hi s.joy.joy3, s)
    | 0x421E => (lo s.joy.joy4, s)
    | 0x421F => (hi s.joy.joy4, s)
    | _ => (s.bus.mdr, s)

/-- Write of the CPU's own register at offset o (R55): read-only and unclaimed registers ignore it. -/
def writeCpuReg (o : Nat) (v : Byte) (s : State) : State :=
  if 0x4300 ≤ o ∧ o ≤ 0x437F then s.updCh (channelOf o) (fun c => c.writeReg (o % 16) v)
  else
    match o with
    | 0x2180 => writeWmdata v s
    | 0x2181 => { s with io := { s.io with wmadd := wmaddLow s.io.wmadd v } }
    | 0x2182 => { s with io := { s.io with wmadd := wmaddMid s.io.wmadd v } }
    | 0x2183 => { s with io := { s.io with wmadd := wmaddHigh s.io.wmadd v } }
    | 0x4016 => { s with joy := s.joy.writeStrobe v }
    | 0x4200 => writeNmitimen v s
    | 0x4201 => writeWrio v s
    | 0x4202 => { s with alu := { s.alu with wrmpya := v } }
    | 0x4203 => { s with alu := s.alu.writeMpyB v }
    | 0x4204 => { s with alu := { s.alu with wrdiv := word (hi s.alu.wrdiv) v } }
    | 0x4205 => { s with alu := { s.alu with wrdiv := word v (lo s.alu.wrdiv) } }
    | 0x4206 => { s with alu := s.alu.writeDivB v }
    | 0x4207 => { s with intr := { s.intr with htime := posLow s.intr.htime v } }
    | 0x4208 => { s with intr := { s.intr with htime := posHigh s.intr.htime v } }
    | 0x4209 => { s with intr := { s.intr with vtime := posLow s.intr.vtime v } }
    | 0x420A => { s with intr := { s.intr with vtime := posHigh s.intr.vtime v } }
    | 0x420B => writeMdmaen v s
    | 0x420C => writeHdmaen v s
    | 0x420D => { s with io := { s.io with memsel := v.getLsbD 0 } }
    | _ => s

/-- An event of the block's boundary is recorded. -/
def emit (e : ExtEvent) (s : State) : State := { s with ext := { s.ext with events := e :: s.ext.events } }

/-- Read of another agent's register: the CPU synchronizes with its owner (R599); the byte is that agent's, a free value
(log entry 5). -/
def readExternal (g : AgentId) (a : Addr) (s : State) : Byte × State :=
  let s := emit (.read g a) (synchronize g s)
  (Config.freeByte s.ext.freeCount, { s with ext := { s.ext with freeCount := s.ext.freeCount + 1 } })

/-- Write of another agent's register (R599, R605). -/
def writeExternal (g : AgentId) (a : Addr) (v : Byte) (s : State) : State :=
  emit (.write g a v) (synchronize g s)

/-- MMIO dispatch of a read (R115, R116). -/
def mmioRead (a : Addr) (s : State) : Byte × State :=
  match s.bus.owner a with
  | none => (s.bus.mdr, s)
  | some .cpu => readCpuReg (offOf a).toNat s
  | some g => readExternal g a s

/-- MMIO dispatch of a write (R115, R116). -/
def mmioWrite (a : Addr) (v : Byte) (s : State) : State :=
  match s.bus.owner a with
  | none => s
  | some .cpu => writeCpuReg (offOf a).toNat v s
  | some g => writeExternal g a v s

end Sys2Proof.Machine
end

