-- ==== Sys2Proof/Machine/Bus.lean ====
section
/-! DEFINITION. Bus accesses (20_memory.md R104, R110; 10_state.md R40): the read and the write of one byte through the
address decoder, with the open-bus latch but without time. `BusRead` and `BusWrite` of the CPU (00_scope.md R11) and of
the DMA controller (45_dma_hdma.md R443) put the time around them. -/

namespace Sys2Proof.Machine

/-- The open-bus latch takes a byte (R40). -/
def setMdr (v : Byte) (s : State) : State := { s with bus := { s.bus with mdr := v } }

/-- One byte read at a bus address; the latch takes it (R40, R104, R110). -/
def busRead (a : Addr) (s : State) : Byte × State :=
  match s.bus.resolve a with
  | .mmio _ =>
    let (v, s) := mmioRead a s
    (v, setMdr v s)
  | t =>
    let v := (s.bus.stored t).getD s.bus.mdr
    (v, setMdr v s)

/-- One byte written at a bus address; the latch takes it, whatever device it reaches (R40, R104, R110, C11). -/
def busWrite (a : Addr) (v : Byte) (s : State) : State :=
  match s.bus.resolve a with
  | .mmio _ => setMdr v (mmioWrite a v s)
  | t => setMdr v { s with bus := s.bus.store v t }

/-- The byte a read at a bus address would return now, without its side effects. -/
def peek (a : Addr) (s : State) : Byte := (busRead a s).1

end Sys2Proof.Machine
end

