-- ==== Sys2Proof/Machine/Dma.lean ====
section
/-! DEFINITION. The DMA and HDMA controller (45_dma_hdma.md R440-R470). An activation starts at the end of a CPU cycle
(R442) and is over before the next one begins (R441): `runActivation` runs it, or what is left of it, to its end, and
`dmaClock` one master clock at a time (R454). A per-line HDMA event that falls due inside a general DMA is served between two
of its bytes (R456). -/

namespace Sys2Proof.Machine

/-- `dma_addr_valid(a)` (R444). -/
def dmaAddrValid (a : Addr) : Bool :=
  let o := a.toNat % 65536
  a.getLsbD 22 ||
    !((decide (0x2100 ≤ o) && decide (o ≤ 0x21FF)) || (decide (0x4000 ≤ o) && decide (o ≤ 0x41FF)) ||
      (decide (0x4200 ≤ o) && decide (o ≤ 0x421F)) || (decide (0x4300 ≤ o) && decide (o ≤ 0x437F)))

/-- `dma_read(a)`: 0x00 with no bus access at an address the controller cannot reach (R444, R450). -/
def dmaRead (a : Addr) (s : State) : Byte × State :=
  if dmaAddrValid a then busRead a s else (0x00, s)

/-- `dma_write(a, v)` (R444). -/
def dmaWrite (a : Addr) (v : Byte) (s : State) : State :=
  if dmaAddrValid a then busWrite a v s else s

/-- The B-bus address of an 8-bit B-bus offset (R449). -/
def bBus (b : Byte) : Addr := long 0x00 (word 0x21 b)

/-- `offset(mode, index)` (R445). -/
def bOffset (mode : Nat) (index : Nat) : Byte :=
  match mode with
  | 1 | 5 => BitVec.ofNat 8 (index % 2)
  | 3 | 7 => BitVec.ofNat 8 (index / 2 % 2)
  | 4 => BitVec.ofNat 8 (index % 4)
  | _ => 0

/-- The HDMA unit length of a mode (R445). -/
def unitLength (mode : Nat) : Nat :=
  match mode with
  | 0 => 1
  | 1 | 2 | 6 => 2
  | _ => 4

/-- DMAPn bits 2:0, the transfer mode (R60). -/
def Channel.mode (c : Channel) : Nat := c.dmap.toNat % 8
/-- DMAPn bit 7, the direction: true = B-bus to A-bus (R60). -/
def Channel.toA (c : Channel) : Bool := c.dmap.getLsbD 7
/-- DMAPn bit 6, indirect HDMA (R60). -/
def Channel.indirect (c : Channel) : Bool := c.dmap.getLsbD 6
/-- DMAPn bit 4, decrement (R60). -/
def Channel.decrement (c : Channel) : Bool := c.dmap.getLsbD 4
/-- DMAPn bit 3, fixed: overrides bit 4 (R60). -/
def Channel.fixed (c : Channel) : Bool := c.dmap.getLsbD 3

/-- A1Tn after one byte of a general DMA; the bank never changes (R448). -/
def Channel.nextA1t (c : Channel) : Word :=
  if c.fixed then c.a1t else if c.decrement then c.a1t - 1 else c.a1t + 1

/-- The B-bus offset of the byte with the given index (R448, R465). -/
def Channel.bAddr (c : Channel) (index : Nat) : Byte := c.bbad + bOffset c.mode index

/-- `wram_conflict(b, a)` (R452). -/
def wramConflict (b : Byte) (a : Addr) (s : State) : Bool :=
  decide (b = 0x80) && (match s.bus.resolve a with | .wram _ => true | _ => false)

/-- The events after a unit of DMA_BYTE_CLOCKS the controller spends: ALU tick, then poll (R498, R587). -/
def dmaUnitEvent (s : State) : State := poll (aluTick s)

/-- The controller owes the master clocks of a new byte (R454). -/
def owe (k : Nat) (s : State) : State := { s with dma := { s.dma with clocks := k } }

/-- It spends k of the clocks it owes (R451, R454). -/
def pay (k : Nat) (s : State) : State :=
  let s := spend k s
  { s with dma := { s.dma with clocks := s.dma.clocks - k } }

/-- Overhead clocks of an activation or a channel (R443): time, and one unit event per whole DMA_BYTE_CLOCKS of them
(DESIGN CHOICE, log entry 9; both overheads are 0 by default). -/
def spendOverhead (k : Nat) (s : State) : State :=
  spend (k % Config.dmaByteClocks)
    (iterate (fun s => dmaUnitEvent (spend Config.dmaByteClocks s)) (k / Config.dmaByteClocks) s)

/-- The clocks of a byte paid, and the unit's event, which stands right after its last clock (R587): before the byte's write,
and for a table byte before its read (DEDUCED, log entry 28). -/
def payUnit (k : Nat) (s : State) : State := dmaUnitEvent (pay k s)

/-- One byte between work RAM's data port and work RAM itself (R451, R452): B to A writes 0x00 and leaves MDR; A to B
writes nothing. -/
def conflictByte (toA : Bool) (a : Addr) (s : State) : State :=
  let s := payUnit 8 s
  if toA then setMdr s.bus.mdr (dmaWrite a 0x00 s) else s

/-- One byte from the B-bus to the A-bus (R451). -/
def byteToA (b : Byte) (a : Addr) (s : State) : State :=
  let r := busRead (bBus b) (pay 4 s)
  dmaWrite a r.1 (payUnit 4 r.2)

/-- One byte from the A-bus to the B-bus (R451). -/
def byteToB (b : Byte) (a : Addr) (s : State) : State :=
  let r := dmaRead a (pay 4 s)
  busWrite (bBus b) r.1 (payUnit 4 r.2)

/-- `transfer(n, dir, b, a)`: one byte in DMA_BYTE_CLOCKS, with the unit's event (R451, R452, R587). -/
def transfer (toA : Bool) (b : Byte) (a : Addr) (s : State) : State :=
  let s := owe Config.dmaByteClocks s
  if wramConflict b a s then conflictByte toA a s
  else if toA then byteToA b a s
  else byteToB b a s

/-- A table byte the controller reads for HDMA, in DMA_BYTE_CLOCKS (R443, R464). -/
def tableByte (a : Addr) (s : State) : Byte × State :=
  dmaRead a (payUnit 8 (owe Config.dmaByteClocks s))

/-- `hdma_table(n)` (R461). -/
def hdmaTable (n : Fin 8) (s : State) : Addr × State :=
  (long (s.ch n).a1b (s.ch n).a2a, s.updCh n (fun c => { c with a2a := c.a2a + 1 }))

/-- `hdma_ind(n)` (R461). -/
def hdmaInd (n : Fin 8) (s : State) : Addr × State :=
  (long (s.ch n).dasb (s.ch n).das, s.updCh n (fun c => { c with das := c.das + 1 }))

/-- The next table byte of channel n (R464). -/
def nextTableByte (n : Fin 8) (s : State) : Byte × State :=
  tableByte (hdmaTable n s).1 (hdmaTable n s).2

/-- The indirect pointer of a table entry (R464). -/
def reloadPointer (n : Fin 8) (s : State) : State :=
  let l := nextTableByte n s
  let h := nextTableByte n l.2
  h.2.updCh n (fun c => { c with das := word h.1 l.1 })

/-- `hdma_reload(n)` (R464). -/
def hdmaReload (n : Fin 8) (s : State) : State :=
  if (s.ch n).ntrl.toNat % 128 ≠ 0 then s
  else
    let r := nextTableByte n s
    let done := decide (r.1 = 0)
    let s := r.2.updCh n (fun c => { c with ntrl := r.1, hdmaCompleted := done, hdmaDoTransfer := !done })
    if (s.ch n).indirect && !done then reloadPointer n s else s

/-- The part of `hdma_init()` for channel n (R463). -/
def hdmaInitChannel (s : State) (n : Fin 8) : State :=
  if (s.ch n).hdmaEnabled then
    hdmaReload n (s.updCh n (fun c => { c with dmaEnabled := false, a2a := c.a1t, ntrl := 0 }))
  else s

/-- `hdma_init()` (R463). -/
def hdmaInit (s : State) : State :=
  channelNumbers.foldl hdmaInitChannel (spendOverhead s.params.dmaSyncOverhead s)

/-- Byte `index` of channel n's HDMA unit (R465). -/
def hdmaUnitByte (n : Fin 8) (s : State) (index : Nat) : State :=
  let r := if (s.ch n).indirect then hdmaInd n s else hdmaTable n s
  transfer (r.2.ch n).toA ((r.2.ch n).bAddr index) r.1 r.2

/-- The transfer part of `hdma_run()` for channel n (R465, R468). -/
def hdmaTransferChannel (s : State) (n : Fin 8) : State :=
  if (s.ch n).hdmaActive then
    let s := s.updCh n (fun c => { c with dmaEnabled := false })
    if (s.ch n).hdmaDoTransfer then (List.range (unitLength (s.ch n).mode)).foldl (hdmaUnitByte n) s else s
  else s

/-- NTRLn after a line: `NTRLn - 1` (R465). A header of 0x80 means 128 lines, and R464's words say that a unit is moved on each
of them, where bit 7 of R465's 0x7F is 0: with the parameter `hdmaRepeat128` the line count wraps to 127 under the repeat bit
and R464's words hold (DESIGN CHOICE, log entry 27). -/
def nextNtrl (repeat128 : Bool) (v : Byte) : Byte := if repeat128 && decide (v = 0x80) then 0xFF else v - 1

/-- The line-counter part of `hdma_run()` for channel n (R465). -/
def hdmaCountChannel (s : State) (n : Fin 8) : State :=
  if (s.ch n).hdmaActive then
    let v := nextNtrl s.params.hdmaRepeat128 (s.ch n).ntrl
    hdmaReload n (s.updCh n (fun c => { c with ntrl := v, hdmaDoTransfer := v.getLsbD 7 }))
  else s

/-- `hdma_run()` (R465). -/
def hdmaRun (s : State) : State :=
  channelNumbers.foldl hdmaCountChannel
    (channelNumbers.foldl hdmaTransferChannel (spendOverhead s.params.dmaSyncOverhead s))

/-- The HDMA activation that is due, if one is (R442, R456). -/
def serviceHdma (s : State) : State :=
  if s.dma.hdmaPending then
    let s := { s with dma := { s.dma with hdmaPending := false } }
    match s.dma.hdmaMode with
    | .init => hdmaInit s
    | .run => hdmaRun s
  else s

/-- One byte of a general DMA on channel n (R448). -/
def dmaByte (n : Fin 8) (s : State) : State :=
  let c := s.ch n
  let index := s.dma.index
  let s := s.updCh n (fun c => { c with a1t := c.nextA1t })
  let s := { s with dma := { s.dma with index := index + 1 } }
  let s := transfer c.toA (c.bAddr index) (long c.a1b c.a1t) s
  s.updCh n (fun c => { c with das := c.das - 1 })

/-- The bytes of channel n until its count is exhausted or its enable is 0 (R448, R468): the enable is looked at before every
byte as it then is, so a byte that writes MDMAEN, through a cartridge's mapping of the dispatcher, stops the channel, where
R446 says that a running DMA has copied the bits (DEDUCED, log entry 35). An HDMA event that fell due in a byte is served
right after that byte, before anything else of the DMA goes on (R456); one more that falls due while it is served waits for
the end of the next byte (DESIGN CHOICE, log entry 32). DASn falls by one with every byte, so 65536 rounds suffice; a channel
whose bytes rewrite its own DASn, through a cartridge's mapping of the dispatcher, ends after 65536 bytes too (DESIGN CHOICE,
log entry 33). -/
def dmaBytes (n : Fin 8) : Nat → State → State
  | 0, s => s
  | k + 1, s =>
    if (s.ch n).dmaEnabled then
      let s := serviceHdma (dmaByte n s)
      if decide ((s.ch n).das = 0) then s else dmaBytes n k s
    else s

/-- The rest of channel n's transfer, and the end of it (R448). -/
def dmaChannelRest (n : Fin 8) (s : State) : State :=
  (dmaBytes n 65536 s).updCh n (fun c => { c with dmaEnabled := false })

/-- Overhead clocks of a general DMA; an HDMA event that fell due in them is served at their end (R443, R456). -/
def dmaOverhead (k : Nat) (s : State) : State := serviceHdma (spendOverhead k s)

/-- Channel n becomes the channel in progress (R448). -/
def dmaStartChannel (n : Fin 8) (s : State) : State :=
  let s := dmaOverhead s.params.dmaChannelOverhead s
  { s with dma := { s.dma with channel := n, index := 0 } }

/-- The part of `dma_run()` for channel n (R448). -/
def dmaRunChannel (s : State) (n : Fin 8) : State :=
  if (s.ch n).dmaEnabled then dmaChannelRest n (dmaStartChannel n s) else s

/-- `dma_run()` begins (R442, R448). -/
def dmaBegin (s : State) : State :=
  dmaOverhead s.params.dmaSyncOverhead { s with dma := { s.dma with pending := false, running := true } }

/-- `dma_run()` is over. -/
def dmaEnd (s : State) : State := { s with dma := { s.dma with running := false } }

/-- `dma_run()` from its beginning (R448). -/
def dmaRun (s : State) : State := dmaEnd (channelNumbers.foldl dmaRunChannel (dmaBegin s))

/-! ### Progress inside a byte (R454) -/

/-- A1Tn of the byte in progress: the register has moved past it (R448). -/
def Channel.lastA1t (c : Channel) : Word :=
  if c.fixed then c.a1t else if c.decrement then c.a1t + 1 else c.a1t - 1

/-- The A-bus address of the byte in progress on channel n. -/
def aInProgress (n : Fin 8) (s : State) : Addr := long (s.ch n).a1b (s.ch n).lastA1t

/-- The B-bus offset of the byte in progress on channel n: the loop index has moved past it (R448). -/
def bInProgress (n : Fin 8) (s : State) : Byte := (s.ch n).bAddr (s.dma.index - 1)

/-- Channel n's next byte begins: its address and index move on, and its clocks are owed (R448, R454). -/
def startByte (n : Fin 8) (s : State) : State :=
  let index := s.dma.index
  let s := s.updCh n (fun c => { c with a1t := c.nextA1t })
  owe Config.dmaByteClocks { s with dma := { s.dma with index := index + 1 } }

/-- The read in the middle of a byte (R451). The byte stays in MDR, or is 0x00 where the controller does not reach the
address (R444, R450). -/
def readHalf (toA : Bool) (b : Byte) (a : Addr) (s : State) : State :=
  if wramConflict b a s then s else if toA then (busRead (bBus b) s).2 else (dmaRead a s).2

/-- The byte between its read and its write: no field but MDR holds it (R454). -/
def heldByte (toA : Bool) (a : Addr) (s : State) : Byte := if toA || dmaAddrValid a then s.bus.mdr else 0x00

/-- The write at the end of a byte (R451, R452). -/
def writeHalf (toA : Bool) (b : Byte) (a : Addr) (s : State) : State :=
  if wramConflict b a s then (if toA then setMdr s.bus.mdr (dmaWrite a 0x00 s) else s)
  else if toA then dmaWrite a (heldByte toA a s) s
  else busWrite (bBus b) (heldByte toA a s) s

/-- The end of channel n's byte: the unit's event, the write, the count, and the HDMA that fell due in it; a channel whose
count is exhausted is done (R448, R456, R587). -/
def endByte (n : Fin 8) (s : State) : State :=
  let s := writeHalf (s.ch n).toA (bInProgress n s) (aInProgress n s) (dmaUnitEvent s)
  let s := serviceHdma (s.updCh n (fun c => { c with das := c.das - 1 }))
  if decide ((s.ch n).das = 0) then s.updCh n (fun c => { c with dmaEnabled := false }) else s

/-- One master clock of the byte in progress on channel n, with what falls at its end (R451, R454). -/
def byteClock (n : Fin 8) (s : State) : State :=
  let s := pay 1 s
  if s.dma.clocks = 4 then readHalf (s.ch n).toA (bInProgress n s) (aInProgress n s) s
  else if s.dma.clocks = 0 then endByte n s
  else s

/-- The channels after n. -/
def channelsAfter (n : Fin 8) : List (Fin 8) := channelNumbers.filter (fun m => decide (n < m))

/-- The rest of a `dma_run()` that was suspended: of the byte in progress the clocks still owed, then the other bytes of its
channel, then the channels after it (R454). -/
def dmaResume (s : State) : State :=
  let n := s.dma.channel
  let s := iterate (byteClock n) s.dma.clocks s
  dmaEnd ((channelsAfter n).foldl dmaRunChannel (dmaChannelRest n s))

/-- The next enabled channel of a list is started, or the run is over and the bus is the CPU's again (R442, R448). -/
def dmaSelect (l : List (Fin 8)) (s : State) : State :=
  match l.find? (fun n => (s.ch n).dmaEnabled) with
  | some n => dmaStartChannel n s
  | none => { dmaEnd s with dma := { (dmaEnd s).dma with active := false } }

/-! ### The cycle boundary (R442) -/

/-- The general DMA that is pending, unless a per-line HDMA event is due now (R442, R467). -/
def serviceDma (s : State) : State := if s.dma.pending && !s.dma.hdmaPending then dmaRun s else s

/-- The first line of `cycle_edge()`: at the end of a CPU cycle the controller takes the bus if something is pending (R442). Its
polls see P.I as it is here: the CPU is suspended before whatever its instruction does after the cycle (R447). -/
def cycleEdge (s : State) : State :=
  if !s.dma.active && (s.dma.pending || s.dma.hdmaPending) then
    { s with dma := { s.dma with active := true, maskI := s.cpu.p.i } }
  else s

/-- The rest of `cycle_edge()`, or what is left of it, to its end (R442, R454). -/
def runActivation (s : State) : State :=
  let s := if s.dma.running then dmaResume s else serviceDma (serviceHdma s)
  { s with dma := { s.dma with active := false } }

/-- A CPU cycle begins when the controller has given the bus back (R441, R447). -/
def startCycle (s : State) : State := if s.dma.active then runActivation s else s

/-- The controller alone, for one master clock of a byte of a general DMA, one selection of a channel, or one whole HDMA
activation (R442, R454, R456): what a step is while the controller owns the bus. -/
def dmaClock (s : State) : State :=
  let n := s.dma.channel
  if !s.dma.active then s
  else if s.dma.clocks ≠ 0 then byteClock n s
  else if s.dma.running then
    if (s.ch n).dmaEnabled then byteClock n (startByte n s) else dmaSelect (channelsAfter n) s
  else
    let s := serviceHdma s
    if s.dma.pending && !s.dma.hdmaPending then dmaSelect channelNumbers (dmaBegin s)
    else { s with dma := { s.dma with active := false } }

end Sys2Proof.Machine
end

