-- ==== Sys2Proof/Machine/Flags.lean ====
section
/-! DEFINITION. The processor status as a byte (10_state.md R35), the width selectors (00_scope.md R14), and every flag
computation the spec gives (R220, R300, R301, R305-R325): pure functions of widths, values and the status. -/

namespace Sys2Proof.Machine

/-- P as the byte software sees, bit 7 first (R35). -/
def Status.toByte (p : Status) : Byte :=
  BitVec.ofBool p.n ++ (BitVec.ofBool p.v ++ (BitVec.ofBool p.m ++ (BitVec.ofBool p.x ++
    (BitVec.ofBool p.d ++ (BitVec.ofBool p.i ++ (BitVec.ofBool p.z ++ BitVec.ofBool p.c))))))

/-- P from a byte (R35). -/
def Status.ofByte (b : Byte) : Status :=
  { n := b.getLsbD 7, v := b.getLsbD 6, m := b.getLsbD 5, x := b.getLsbD 4
    d := b.getLsbD 3, i := b.getLsbD 2, z := b.getLsbD 1, c := b.getLsbD 0 }

/-- The width a mode bit selects: 1 means 8 bits (R14). -/
def widthOf (bit : Bool) : Width := if bit then .w8 else .w16

/-- `mw` (R14). -/
def Cpu.mw (c : Cpu) : Width := widthOf c.p.m
/-- `xw` (R14). -/
def Cpu.xw (c : Cpu) : Width := widthOf c.p.x

/-- `setNZ(v, w)` (R220). -/
def setNZ (w : Width) (v : Word) (p : Status) : Status :=
  { p with n := msb w v, z := decide (trunc w v = 0) }

/-- The result of an addition or subtraction. -/
structure AddResult where
  value : Word
  v : Bool
  c : Bool
  deriving DecidableEq, Repr

/-- One step of R301's loop at nibble position k, on the running sum r. -/
def decStep (sub : Bool) (a m : Nat) (k : Nat) (r : Int) : Int :=
  let r := if !sub && decide (r > 0xA * 2 ^ (k - 4) - 1) then r + 0x6 * 2 ^ (k - 4) else r
  let r := if sub && decide (r ≤ 0x10 * 2 ^ (k - 4) - 1) then r - 0x6 * 2 ^ (k - 4) else r
  let cy : Int := if r > 0x10 * 2 ^ (k - 4) - 1 then 2 ^ k else 0
  ((a / 2 ^ k % 16 * 2 ^ k : Nat) : Int) + ((m / 2 ^ k % 16 * 2 ^ k : Nat) : Int) + cy + r % 2 ^ k

/-- The nibble positions of R301's loop. -/
def nibbles : Width → List Nat
  | .w8 => [4]
  | .w16 => [4, 8, 12]

/-- `dec_sum(a, m, c, w, sub)` (R301). -/
def decSum (w : Width) (sub : Bool) (a m : Nat) (c : Bool) : Int :=
  (nibbles w).foldl (fun r k => decStep sub a m k r) ((a % 16 : Nat) + (m % 16 : Nat) + (c.toNat : Int))

/-- The last adjustment of R301 on the sum r. -/
def decAdjust (w : Width) (sub : Bool) (r : Int) : Int :=
  if sub then (if r ≤ 2 ^ w.bits - 1 then r - 0x6 * 2 ^ (w.bits - 4) else r)
  else (if r > 0xA * 2 ^ (w.bits - 4) - 1 then r + 0x6 * 2 ^ (w.bits - 4) else r)

/-- ADC and, on the complemented operand, SBC (R301, R305, R306): a and m are the w-bit values of the accumulator and of
the operand (for SBC already complemented), `dec` is P.D. The overflow bit is taken from the sum before the last decimal
adjustment, the carry and the result after it. -/
def addCore (w : Width) (sub dec : Bool) (a m : Word) (c : Bool) : AddResult :=
  let a := trunc w a
  let m := trunc w m
  let r : Int := if dec then decSum w sub a.toNat m.toNat c else (a.toNat : Int) + m.toNat + c.toNat
  let rb : Word := BitVec.ofInt 16 r
  let r' : Int := if dec then decAdjust w sub r else r
  { value := trunc w (BitVec.ofInt 16 r')
    v := msb w (~~~(a ^^^ m) &&& (a ^^^ rb))
    c := decide (r' > 2 ^ w.bits - 1) }

/-- The status after ADC or SBC: N, V, Z, C (R305, R306). -/
def AddResult.flags (w : Width) (r : AddResult) (p : Status) : Status :=
  setNZ w r.value { p with v := r.v, c := r.c }

/-- The status after a comparison of reg with m: N, Z, C (R307-R309). -/
def compare (w : Width) (reg m : Word) (p : Status) : Status :=
  setNZ w (reg - m) { p with c := decide ((trunc w m).toNat ≤ (trunc w reg).toNat) }

/-- The status after BIT with a memory operand: N, V, Z (R313). -/
def bitMemory (w : Width) (a m : Word) (p : Status) : Status :=
  { p with n := msb w m, v := m.getLsbD (w.bits - 2), z := decide (trunc w (a &&& m) = 0) }

/-- The status after BIT with an immediate: Z only (R313). -/
def bitImmediate (w : Width) (a m : Word) (p : Status) : Status :=
  { p with z := decide (trunc w (a &&& m) = 0) }

/-- What a read-modify-write operation makes of its operand v: the new value and the status. -/
structure Rmw where
  value : Word
  p : Status
  deriving DecidableEq, Repr

/-- ASL (R320). -/
def rmwAsl (w : Width) (_a v : Word) (p : Status) : Rmw :=
  let r := trunc w (v <<< 1)
  { value := r, p := setNZ w r { p with c := msb w v } }

/-- LSR (R321). -/
def rmwLsr (w : Width) (_a v : Word) (p : Status) : Rmw :=
  let r := trunc w v >>> 1
  { value := r, p := setNZ w r { p with c := v.getLsbD 0 } }

/-- ROL (R322). -/
def rmwRol (w : Width) (_a v : Word) (p : Status) : Rmw :=
  let r := trunc w ((v <<< 1) ||| (BitVec.ofBool p.c).setWidth 16)
  { value := r, p := setNZ w r { p with c := msb w v } }

/-- ROR (R323). -/
def rmwRor (w : Width) (_a v : Word) (p : Status) : Rmw :=
  let r := (trunc w v >>> 1) ||| ((BitVec.ofBool p.c).setWidth 16 <<< (w.bits - 1))
  { value := r, p := setNZ w r { p with c := v.getLsbD 0 } }

/-- INC (R314). -/
def rmwInc (w : Width) (_a v : Word) (p : Status) : Rmw :=
  let r := trunc w (v + 1)
  { value := r, p := setNZ w r p }

/-- DEC (R315). -/
def rmwDec (w : Width) (_a v : Word) (p : Status) : Rmw :=
  let r := trunc w (v - 1)
  { value := r, p := setNZ w r p }

/-- TSB: the test is of the old memory value; Z only (R324). -/
def rmwTsb (w : Width) (a v : Word) (p : Status) : Rmw :=
  { value := trunc w (v ||| a), p := { p with z := decide (trunc w (a &&& v) = 0) } }

/-- TRB (R325). -/
def rmwTrb (w : Width) (a v : Word) (p : Status) : Rmw :=
  { value := trunc w (v &&& ~~~a), p := { p with z := decide (trunc w (a &&& v) = 0) } }

/-- `reg_A(w)` read (R14). -/
def Cpu.regA (c : Cpu) (w : Width) : Word := trunc w c.a
/-- A write of width w to A (R14, R31). -/
def Cpu.setA (c : Cpu) (w : Width) (v : Word) : Cpu := { c with a := setLow w c.a v }
/-- A write to X: only the low byte, the high byte 0, while P.X = 1 (R32). -/
def Cpu.setX (c : Cpu) (v : Word) : Cpu := { c with x := trunc c.xw v }
/-- A write to Y: only the low byte, the high byte 0, while P.X = 1 (R32). -/
def Cpu.setY (c : Cpu) (v : Word) : Cpu := { c with y := trunc c.xw v }
/-- A write of S: the high byte is forced to 0x01 in emulation mode (R34). -/
def Cpu.setS (c : Cpu) (v : Word) : Cpu := { c with s := if c.e then word 0x01 (lo v) else v }

/-- `write_P(v)`: emulation mode forces M and X to 1, and X = 1 clears XH and YH (R32, R33, R400). -/
def Cpu.writeP (c : Cpu) (p : Status) : Cpu :=
  let p := if c.e then { p with m := true, x := true } else p
  if p.x then { c with p := p, x := zext (lo c.x), y := zext (lo c.y) } else { c with p := p }

end Sys2Proof.Machine
end

