-- ==== Sys2Proof/Machine/Ops.lean ====
section
/-! DEFINITION. The named operations of the CPU: bus cycles and internal cycles (00_scope.md R11, 60_exceptions.md R587),
fetching (R13), the stack (R12, 10_state.md R34), the shared entry into a handler and the return from it (R570, R381,
R382), and the two shapes of instruction that touch no memory operand. -/

namespace Sys2Proof.Machine

/-- The cycle event at the end of a CPU cycle: ALU tick, poll, DMA check (R587). A controller that takes the bus here works
before the next cycle begins: in this instruction or, where the instruction is over, in the steps that follow it (R441, R447;
log entry 25). The tick of the cycle that starts the multiply/divide unit does not count (R498): a start is taken only by an
idle unit, so the unit ticks exactly when it was busy as the cycle began. -/
def endCycle (wasBusy : Bool) (s : State) : State :=
  cycleEdge (poll (if wasBusy then aluTick s else s))

/-- `BusRead(a)` as a CPU cycle (R11, R125): the access, then its SPEED(a) master clocks, then the cycle event. That the
access stands at the start of the cycle is DEDUCED from R11's order (log entry 10). -/
def read8 (a : Addr) (s : State) : Byte × State :=
  let s := startCycle s
  let busy := s.alu.busy
  let k := speed s.io.memsel a
  let (v, s) := busRead a s
  (v, endCycle busy (spend k s))

/-- `BusWrite(a, v)` as a CPU cycle (R11, R125). Its length is that of MEMSEL before the write (R505). -/
def write8 (a : Addr) (v : Byte) (s : State) : State :=
  let s := startCycle s
  let busy := s.alu.busy
  let k := speed s.io.memsel a
  endCycle busy (spend k (busWrite a v s))

/-- `Idle()` (R11). -/
def idle (s : State) : State :=
  let s := startCycle s
  endCycle s.alu.busy (spend Config.ioClocks s)

/-- n internal cycles. -/
def idles (n : Nat) (s : State) : State := iterate idle n s

/-- The registers changed by f, without time. -/
def State.mapCpu (s : State) (f : Cpu → Cpu) : State := { s with cpu := f s.cpu }

/-- `PC <- t`, PB unchanged (R13). -/
def Cpu.setPc (c : Cpu) (t : Word) : Cpu := { c with pc := t }

/-- `fetch8()` (R13, R174). -/
def fetch8 (s : State) : Byte × State :=
  let (v, s) := read8 (long s.cpu.pb s.cpu.pc) s
  (v, s.mapCpu (fun c => { c with pc := c.pc + 1 }))

/-- `stack_addr(S)` (R12). -/
def stackAddr (sp : Word) : Addr := long 0x00 sp

/-- `Push8(v)` (R12, R34). -/
def push8 (v : Byte) (s : State) : State :=
  let s := write8 (stackAddr s.cpu.s) v s
  s.mapCpu (fun c => c.setS (c.s - 1))

/-- `Push16(v)`: high byte first (R12, R177). -/
def push16 (v : Word) (s : State) : State := push8 (lo v) (push8 (hi v) s)

/-- `Pull8()` (R12, R34). -/
def pull8 (s : State) : Byte × State :=
  let s := s.mapCpu (fun c => c.setS (c.s + 1))
  read8 (stackAddr s.cpu.s) s

/-- `Pull16()`: low byte first (R12). -/
def pull16 (s : State) : Word × State :=
  let (l, s) := pull8 s
  let (h, s) := pull8 s
  (word h l, s)

/-- `Push8` with the full 16-bit S, for the instructions R34 excepts (D20); `forceS` ends them. -/
def push8Full (v : Byte) (s : State) : State :=
  let s := write8 (stackAddr s.cpu.s) v s
  s.mapCpu (fun c => { c with s := c.s - 1 })

/-- `Push16` with the full 16-bit S (R34). -/
def push16Full (v : Word) (s : State) : State := push8Full (lo v) (push8Full (hi v) s)

/-- `Pull8` with the full 16-bit S (R34). -/
def pull8Full (s : State) : Byte × State :=
  let s := s.mapCpu (fun c => { c with s := c.s + 1 })
  read8 (stackAddr s.cpu.s) s

/-- `Pull16` with the full 16-bit S (R34). -/
def pull16Full (s : State) : Word × State :=
  let (l, s) := pull8Full s
  let (h, s) := pull8Full s
  (word h l, s)

/-- `SH <- 0x01` in emulation mode after the last stack access (R34). -/
def forceS (s : State) : State := s.mapCpu (fun c => c.setS c.s)

/-- A 16-bit pointer read at o and o+1 of a bank, wrapping in the bank (R178). -/
def readVector (bank : Byte) (o : Word) (s : State) : Word × State :=
  let (l, s) := read8 (long bank o) s
  let (h, s) := read8 (long bank (o + 1)) s
  (word h l, s)

/-- The P, D and PB of a handler's entry (R382, R570). -/
def Cpu.enter (c : Cpu) : Cpu := { c with p := { c.p with i := true, d := false }, pb := 0x00 }

/-- The push of a handler's entry: PB in native mode, PC, and the given copy of P (R382, R570). -/
def pushFrame (pCopy : Byte) (s : State) : State :=
  let s := if s.cpu.e then s else push8 s.cpu.pb s
  push8 pCopy (push16 s.cpu.pc s)

/-- `interrupt_vector` takes the address of a vector (R46, R567). -/
def setVector (vector : Word) (s : State) : State := { s with intr := { s.intr with interruptVector := vector } }

/-- Entering a handler: the push frame, I, D and PB, `interrupt_vector`, and the jump through it in bank 0. BRK, COP, NMI and
IRQ share it (R362, R382, R383, R567, R570). That BRK and COP write `interrupt_vector` too is DEDUCED from R567 (log entry
20). -/
def enterHandler (pCopy : Byte) (vector : Word) (s : State) : State :=
  let s := setVector vector ((pushFrame pCopy s).mapCpu Cpu.enter)
  let (t, s) := readVector 0x00 vector s
  s.mapCpu (fun c => c.setPc t)

/-- The kinds of interrupt the hardware requests (R541). -/
inductive IntKind where
  | nmi
  | irq
  deriving DecidableEq, Repr

/-- The vector of a requested interrupt (R567). -/
def IntKind.vector : IntKind → Bool → Word
  | .nmi, false => 0xFFEA
  | .nmi, true => 0xFFFA
  | .irq, false => 0xFFEE
  | .irq, true => 0xFFFE

/-- BRK's vector (R382, R567). -/
def brkVector (e : Bool) : Word := if e then 0xFFFE else 0xFFE6
/-- COP's vector (R383, R567). -/
def copVector (e : Bool) : Word := if e then 0xFFF4 else 0xFFE4

/-- The copy of P a software interrupt pushes: in emulation mode bit 4 (B) and bit 5 are 1 (R36). -/
def softwareP (c : Cpu) : Byte := if c.e then c.p.toByte ||| 0x30 else c.p.toByte

/-- The copy of P a requested interrupt pushes: in emulation mode bit 4 (B) is 0 and bit 5 is 1 (R36, R570; DEDUCED, log
entry 19). -/
def requestP (c : Cpu) : Byte := if c.e then (c.p.toByte &&& 0xEF) ||| 0x20 else c.p.toByte

/-- `take_interrupt(kind)` (R570). -/
def takeInterrupt (kind : IntKind) (s : State) : State :=
  let s := idles 2 s
  enterHandler (requestP s.cpu) (kind.vector s.cpu.e) s

/-- The return from a handler: P, PC and, in native mode, PB (R381, R571). -/
def returnFromInterrupt (s : State) : State :=
  let s := idles 2 s
  let (p, s) := pull8 s
  let s := s.mapCpu (fun c => c.writeP (Status.ofByte p))
  let (t, s) := pull16 s
  let s := s.mapCpu (fun c => c.setPc t)
  if s.cpu.e then s
  else
    let (b, s) := pull8 s
    s.mapCpu (fun c => { c with pb := b })

/-- An instruction of n internal cycles and then a change of registers (R400, R640). -/
def implied (n : Nat) (f : Cpu → Cpu) (s : State) : State := (idles n s).mapCpu f

end Sys2Proof.Machine
end

