-- ==== Sys2Proof/Syntax.lean ====
section
/-! DEFINITION. Abstract syntax of the 65C816 (30_encoding.md): one constructor of `Instr` per row of
spec/opcode_table.json, those with operand bytes first, each part in opcode order (Lean's runtime has no more than 244
tags for constructors that carry data). Operands are as assembled by R173: `o : Byte` a direct-page or stack offset, a
signature, a mask or an 8-bit displacement; `o : Word` an absolute address, a 16-bit constant or displacement;
`o : Addr` a long address; `o : Imm` an immediate whose width the mode bits decide (R172). A constructor is named by its
mnemonic and, where a mnemonic has several rows, its addressing mode. -/

namespace Sys2Proof

/-- An immediate of an `imm_m` or `imm_x` opcode: one byte or two (R172); it is not extended (R173). -/
inductive Imm where
  | b8 (v : Byte)
  | w16 (v : Word)
  deriving DecidableEq, Repr

/-- The data-addressing modes (R175). -/
inductive Mode where
  | imm (v : Imm)
  | dp (o : Byte)
  | dpx (o : Byte)
  | dpy (o : Byte)
  | dpind (o : Byte)
  | dpxind (o : Byte)
  | dpindy (o : Byte)
  | dpindl (o : Byte)
  | dpindly (o : Byte)
  | abs (o : Word)
  | absx (o : Word)
  | absy (o : Word)
  | long (o : Addr)
  | longx (o : Addr)
  | sr (o : Byte)
  | srindy (o : Byte)
  deriving DecidableEq, Repr

/-- One instruction (R170, R183): a constructor per opcode. -/
inductive Instr where
  /-- 0x00 `BRK #sig` (R382). -/
  | brk (o : Byte)
  /-- 0x01 `ORA (dp,X)` (R311). -/
  | oraDpxind (o : Byte)
  /-- 0x02 `COP #sig` (R383). -/
  | cop (o : Byte)
  /-- 0x03 `ORA sr,S` (R311). -/
  | oraSr (o : Byte)
  /-- 0x04 `TSB dp` (R324). -/
  | tsbDp (o : Byte)
  /-- 0x05 `ORA dp` (R311). -/
  | oraDp (o : Byte)
  /-- 0x06 `ASL dp` (R320). -/
  | aslDp (o : Byte)
  /-- 0x07 `ORA [dp]` (R311). -/
  | oraDpindl (o : Byte)
  /-- 0x09 `ORA #const` (R311). -/
  | oraImm (o : Imm)
  /-- 0x0C `TSB addr` (R324). -/
  | tsbAbs (o : Word)
  /-- 0x0D `ORA addr` (R311). -/
  | oraAbs (o : Word)
  /-- 0x0E `ASL addr` (R320). -/
  | aslAbs (o : Word)
  /-- 0x0F `ORA long` (R311). -/
  | oraLong (o : Addr)
  /-- 0x10 `BPL label` (R365). -/
  | bpl (o : Byte)
  /-- 0x11 `ORA (dp),Y` (R311). -/
  | oraDpindy (o : Byte)
  /-- 0x12 `ORA (dp)` (R311). -/
  | oraDpind (o : Byte)
  /-- 0x13 `ORA (sr,S),Y` (R311). -/
  | oraSrindy (o : Byte)
  /-- 0x14 `TRB dp` (R325). -/
  | trbDp (o : Byte)
  /-- 0x15 `ORA dp,X` (R311). -/
  | oraDpx (o : Byte)
  /-- 0x16 `ASL dp,X` (R320). -/
  | aslDpx (o : Byte)
  /-- 0x17 `ORA [dp],Y` (R311). -/
  | oraDpindly (o : Byte)
  /-- 0x19 `ORA addr,Y` (R311). -/
  | oraAbsy (o : Word)
  /-- 0x1C `TRB addr` (R325). -/
  | trbAbs (o : Word)
  /-- 0x1D `ORA addr,X` (R311). -/
  | oraAbsx (o : Word)
  /-- 0x1E `ASL addr,X` (R320). -/
  | aslAbsx (o : Word)
  /-- 0x1F `ORA long,X` (R311). -/
  | oraLongx (o : Addr)
  /-- 0x20 `JSR addr` (R377). -/
  | jsrAbs (o : Word)
  /-- 0x21 `AND (dp,X)` (R310). -/
  | andDpxind (o : Byte)
  /-- 0x22 `JSL long` (R378). -/
  | jsl (o : Addr)
  /-- 0x23 `AND sr,S` (R310). -/
  | andSr (o : Byte)
  /-- 0x24 `BIT dp` (R313). -/
  | bitDp (o : Byte)
  /-- 0x25 `AND dp` (R310). -/
  | andDp (o : Byte)
  /-- 0x26 `ROL dp` (R322). -/
  | rolDp (o : Byte)
  /-- 0x27 `AND [dp]` (R310). -/
  | andDpindl (o : Byte)
  /-- 0x29 `AND #const` (R310). -/
  | andImm (o : Imm)
  /-- 0x2C `BIT addr` (R313). -/
  | bitAbs (o : Word)
  /-- 0x2D `AND addr` (R310). -/
  | andAbs (o : Word)
  /-- 0x2E `ROL addr` (R322). -/
  | rolAbs (o : Word)
  /-- 0x2F `AND long` (R310). -/
  | andLong (o : Addr)
  /-- 0x30 `BMI label` (R366). -/
  | bmi (o : Byte)
  /-- 0x31 `AND (dp),Y` (R310). -/
  | andDpindy (o : Byte)
  /-- 0x32 `AND (dp)` (R310). -/
  | andDpind (o : Byte)
  /-- 0x33 `AND (sr,S),Y` (R310). -/
  | andSrindy (o : Byte)
  /-- 0x34 `BIT dp,X` (R313). -/
  | bitDpx (o : Byte)
  /-- 0x35 `AND dp,X` (R310). -/
  | andDpx (o : Byte)
  /-- 0x36 `ROL dp,X` (R322). -/
  | rolDpx (o : Byte)
  /-- 0x37 `AND [dp],Y` (R310). -/
  | andDpindly (o : Byte)
  /-- 0x39 `AND addr,Y` (R310). -/
  | andAbsy (o : Word)
  /-- 0x3C `BIT addr,X` (R313). -/
  | bitAbsx (o : Word)
  /-- 0x3D `AND addr,X` (R310). -/
  | andAbsx (o : Word)
  /-- 0x3E `ROL addr,X` (R322). -/
  | rolAbsx (o : Word)
  /-- 0x3F `AND long,X` (R310). -/
  | andLongx (o : Addr)
  /-- 0x41 `EOR (dp,X)` (R312). -/
  | eorDpxind (o : Byte)
  /-- 0x42 `WDM #sig` (R416). -/
  | wdm (o : Byte)
  /-- 0x43 `EOR sr,S` (R312). -/
  | eorSr (o : Byte)
  /-- 0x44 `MVP srcbank,dstbank` (R269). -/
  | mvp (dst src : Byte)
  /-- 0x45 `EOR dp` (R312). -/
  | eorDp (o : Byte)
  /-- 0x46 `LSR dp` (R321). -/
  | lsrDp (o : Byte)
  /-- 0x47 `EOR [dp]` (R312). -/
  | eorDpindl (o : Byte)
  /-- 0x49 `EOR #const` (R312). -/
  | eorImm (o : Imm)
  /-- 0x4C `JMP addr` (R375). -/
  | jmpAbs (o : Word)
  /-- 0x4D `EOR addr` (R312). -/
  | eorAbs (o : Word)
  /-- 0x4E `LSR addr` (R321). -/
  | lsrAbs (o : Word)
  /-- 0x4F `EOR long` (R312). -/
  | eorLong (o : Addr)
  /-- 0x50 `BVC label` (R367). -/
  | bvc (o : Byte)
  /-- 0x51 `EOR (dp),Y` (R312). -/
  | eorDpindy (o : Byte)
  /-- 0x52 `EOR (dp)` (R312). -/
  | eorDpind (o : Byte)
  /-- 0x53 `EOR (sr,S),Y` (R312). -/
  | eorSrindy (o : Byte)
  /-- 0x54 `MVN srcbank,dstbank` (R268). -/
  | mvn (dst src : Byte)
  /-- 0x55 `EOR dp,X` (R312). -/
  | eorDpx (o : Byte)
  /-- 0x56 `LSR dp,X` (R321). -/
  | lsrDpx (o : Byte)
  /-- 0x57 `EOR [dp],Y` (R312). -/
  | eorDpindly (o : Byte)
  /-- 0x59 `EOR addr,Y` (R312). -/
  | eorAbsy (o : Word)
  /-- 0x5C `JML long` (R376). -/
  | jmlLong (o : Addr)
  /-- 0x5D `EOR addr,X` (R312). -/
  | eorAbsx (o : Word)
  /-- 0x5E `LSR addr,X` (R321). -/
  | lsrAbsx (o : Word)
  /-- 0x5F `EOR long,X` (R312). -/
  | eorLongx (o : Addr)
  /-- 0x61 `ADC (dp,X)` (R305). -/
  | adcDpxind (o : Byte)
  /-- 0x62 `PER label` (R265). -/
  | per (o : Word)
  /-- 0x63 `ADC sr,S` (R305). -/
  | adcSr (o : Byte)
  /-- 0x64 `STZ dp` (R231). -/
  | stzDp (o : Byte)
  /-- 0x65 `ADC dp` (R305). -/
  | adcDp (o : Byte)
  /-- 0x66 `ROR dp` (R323). -/
  | rorDp (o : Byte)
  /-- 0x67 `ADC [dp]` (R305). -/
  | adcDpindl (o : Byte)
  /-- 0x69 `ADC #const` (R305). -/
  | adcImm (o : Imm)
  /-- 0x6C `JMP (addr)` (R375). -/
  | jmpAbsind (o : Word)
  /-- 0x6D `ADC addr` (R305). -/
  | adcAbs (o : Word)
  /-- 0x6E `ROR addr` (R323). -/
  | rorAbs (o : Word)
  /-- 0x6F `ADC long` (R305). -/
  | adcLong (o : Addr)
  /-- 0x70 `BVS label` (R368). -/
  | bvs (o : Byte)
  /-- 0x71 `ADC (dp),Y` (R305). -/
  | adcDpindy (o : Byte)
  /-- 0x72 `ADC (dp)` (R305). -/
  | adcDpind (o : Byte)
  /-- 0x73 `ADC (sr,S),Y` (R305). -/
  | adcSrindy (o : Byte)
  /-- 0x74 `STZ dp,X` (R231). -/
  | stzDpx (o : Byte)
  /-- 0x75 `ADC dp,X` (R305). -/
  | adcDpx (o : Byte)
  /-- 0x76 `ROR dp,X` (R323). -/
  | rorDpx (o : Byte)
  /-- 0x77 `ADC [dp],Y` (R305). -/
  | adcDpindly (o : Byte)
  /-- 0x79 `ADC addr,Y` (R305). -/
  | adcAbsy (o : Word)
  /-- 0x7C `JMP (addr,X)` (R375). -/
  | jmpAbsxind (o : Word)
  /-- 0x7D `ADC addr,X` (R305). -/
  | adcAbsx (o : Word)
  /-- 0x7E `ROR addr,X` (R323). -/
  | rorAbsx (o : Word)
  /-- 0x7F `ADC long,X` (R305). -/
  | adcLongx (o : Addr)
  /-- 0x80 `BRA label` (R373). -/
  | bra (o : Byte)
  /-- 0x81 `STA (dp,X)` (R228). -/
  | staDpxind (o : Byte)
  /-- 0x82 `BRL label` (R374). -/
  | brl (o : Word)
  /-- 0x83 `STA sr,S` (R228). -/
  | staSr (o : Byte)
  /-- 0x84 `STY dp` (R230). -/
  | styDp (o : Byte)
  /-- 0x85 `STA dp` (R228). -/
  | staDp (o : Byte)
  /-- 0x86 `STX dp` (R229). -/
  | stxDp (o : Byte)
  /-- 0x87 `STA [dp]` (R228). -/
  | staDpindl (o : Byte)
  /-- 0x89 `BIT #const` (R313). -/
  | bitImm (o : Imm)
  /-- 0x8C `STY addr` (R230). -/
  | styAbs (o : Word)
  /-- 0x8D `STA addr` (R228). -/
  | staAbs (o : Word)
  /-- 0x8E `STX addr` (R229). -/
  | stxAbs (o : Word)
  /-- 0x8F `STA long` (R228). -/
  | staLong (o : Addr)
  /-- 0x90 `BCC label` (R369). -/
  | bcc (o : Byte)
  /-- 0x91 `STA (dp),Y` (R228). -/
  | staDpindy (o : Byte)
  /-- 0x92 `STA (dp)` (R228). -/
  | staDpind (o : Byte)
  /-- 0x93 `STA (sr,S),Y` (R228). -/
  | staSrindy (o : Byte)
  /-- 0x94 `STY dp,X` (R230). -/
  | styDpx (o : Byte)
  /-- 0x95 `STA dp,X` (R228). -/
  | staDpx (o : Byte)
  /-- 0x96 `STX dp,Y` (R229). -/
  | stxDpy (o : Byte)
  /-- 0x97 `STA [dp],Y` (R228). -/
  | staDpindly (o : Byte)
  /-- 0x99 `STA addr,Y` (R228). -/
  | staAbsy (o : Word)
  /-- 0x9C `STZ addr` (R231). -/
  | stzAbs (o : Word)
  /-- 0x9D `STA addr,X` (R228). -/
  | staAbsx (o : Word)
  /-- 0x9E `STZ addr,X` (R231). -/
  | stzAbsx (o : Word)
  /-- 0x9F `STA long,X` (R228). -/
  | staLongx (o : Addr)
  /-- 0xA0 `LDY #const` (R227). -/
  | ldyImm (o : Imm)
  /-- 0xA1 `LDA (dp,X)` (R225). -/
  | ldaDpxind (o : Byte)
  /-- 0xA2 `LDX #const` (R226). -/
  | ldxImm (o : Imm)
  /-- 0xA3 `LDA sr,S` (R225). -/
  | ldaSr (o : Byte)
  /-- 0xA4 `LDY dp` (R227). -/
  | ldyDp (o : Byte)
  /-- 0xA5 `LDA dp` (R225). -/
  | ldaDp (o : Byte)
  /-- 0xA6 `LDX dp` (R226). -/
  | ldxDp (o : Byte)
  /-- 0xA7 `LDA [dp]` (R225). -/
  | ldaDpindl (o : Byte)
  /-- 0xA9 `LDA #const` (R225). -/
  | ldaImm (o : Imm)
  /-- 0xAC `LDY addr` (R227). -/
  | ldyAbs (o : Word)
  /-- 0xAD `LDA addr` (R225). -/
  | ldaAbs (o : Word)
  /-- 0xAE `LDX addr` (R226). -/
  | ldxAbs (o : Word)
  /-- 0xAF `LDA long` (R225). -/
  | ldaLong (o : Addr)
  /-- 0xB0 `BCS label` (R370). -/
  | bcs (o : Byte)
  /-- 0xB1 `LDA (dp),Y` (R225). -/
  | ldaDpindy (o : Byte)
  /-- 0xB2 `LDA (dp)` (R225). -/
  | ldaDpind (o : Byte)
  /-- 0xB3 `LDA (sr,S),Y` (R225). -/
  | ldaSrindy (o : Byte)
  /-- 0xB4 `LDY dp,X` (R227). -/
  | ldyDpx (o : Byte)
  /-- 0xB5 `LDA dp,X` (R225). -/
  | ldaDpx (o : Byte)
  /-- 0xB6 `LDX dp,Y` (R226). -/
  | ldxDpy (o : Byte)
  /-- 0xB7 `LDA [dp],Y` (R225). -/
  | ldaDpindly (o : Byte)
  /-- 0xB9 `LDA addr,Y` (R225). -/
  | ldaAbsy (o : Word)
  /-- 0xBC `LDY addr,X` (R227). -/
  | ldyAbsx (o : Word)
  /-- 0xBD `LDA addr,X` (R225). -/
  | ldaAbsx (o : Word)
  /-- 0xBE `LDX addr,Y` (R226). -/
  | ldxAbsy (o : Word)
  /-- 0xBF `LDA long,X` (R225). -/
  | ldaLongx (o : Addr)
  /-- 0xC0 `CPY #const` (R309). -/
  | cpyImm (o : Imm)
  /-- 0xC1 `CMP (dp,X)` (R307). -/
  | cmpDpxind (o : Byte)
  /-- 0xC2 `REP #const` (R412). -/
  | rep (o : Byte)
  /-- 0xC3 `CMP sr,S` (R307). -/
  | cmpSr (o : Byte)
  /-- 0xC4 `CPY dp` (R309). -/
  | cpyDp (o : Byte)
  /-- 0xC5 `CMP dp` (R307). -/
  | cmpDp (o : Byte)
  /-- 0xC6 `DEC dp` (R315). -/
  | decDp (o : Byte)
  /-- 0xC7 `CMP [dp]` (R307). -/
  | cmpDpindl (o : Byte)
  /-- 0xC9 `CMP #const` (R307). -/
  | cmpImm (o : Imm)
  /-- 0xCC `CPY addr` (R309). -/
  | cpyAbs (o : Word)
  /-- 0xCD `CMP addr` (R307). -/
  | cmpAbs (o : Word)
  /-- 0xCE `DEC addr` (R315). -/
  | decAbs (o : Word)
  /-- 0xCF `CMP long` (R307). -/
  | cmpLong (o : Addr)
  /-- 0xD0 `BNE label` (R371). -/
  | bne (o : Byte)
  /-- 0xD1 `CMP (dp),Y` (R307). -/
  | cmpDpindy (o : Byte)
  /-- 0xD2 `CMP (dp)` (R307). -/
  | cmpDpind (o : Byte)
  /-- 0xD3 `CMP (sr,S),Y` (R307). -/
  | cmpSrindy (o : Byte)
  /-- 0xD4 `PEI (dp)` (R264). -/
  | pei (o : Byte)
  /-- 0xD5 `CMP dp,X` (R307). -/
  | cmpDpx (o : Byte)
  /-- 0xD6 `DEC dp,X` (R315). -/
  | decDpx (o : Byte)
  /-- 0xD7 `CMP [dp],Y` (R307). -/
  | cmpDpindly (o : Byte)
  /-- 0xD9 `CMP addr,Y` (R307). -/
  | cmpAbsy (o : Word)
  /-- 0xDC `JML [addr]` (R376). -/
  | jmlAbsindl (o : Word)
  /-- 0xDD `CMP addr,X` (R307). -/
  | cmpAbsx (o : Word)
  /-- 0xDE `DEC addr,X` (R315). -/
  | decAbsx (o : Word)
  /-- 0xDF `CMP long,X` (R307). -/
  | cmpLongx (o : Addr)
  /-- 0xE0 `CPX #const` (R308). -/
  | cpxImm (o : Imm)
  /-- 0xE1 `SBC (dp,X)` (R306). -/
  | sbcDpxind (o : Byte)
  /-- 0xE2 `SEP #const` (R413). -/
  | sep (o : Byte)
  /-- 0xE3 `SBC sr,S` (R306). -/
  | sbcSr (o : Byte)
  /-- 0xE4 `CPX dp` (R308). -/
  | cpxDp (o : Byte)
  /-- 0xE5 `SBC dp` (R306). -/
  | sbcDp (o : Byte)
  /-- 0xE6 `INC dp` (R314). -/
  | incDp (o : Byte)
  /-- 0xE7 `SBC [dp]` (R306). -/
  | sbcDpindl (o : Byte)
  /-- 0xE9 `SBC #const` (R306). -/
  | sbcImm (o : Imm)
  /-- 0xEC `CPX addr` (R308). -/
  | cpxAbs (o : Word)
  /-- 0xED `SBC addr` (R306). -/
  | sbcAbs (o : Word)
  /-- 0xEE `INC addr` (R314). -/
  | incAbs (o : Word)
  /-- 0xEF `SBC long` (R306). -/
  | sbcLong (o : Addr)
  /-- 0xF0 `BEQ label` (R372). -/
  | beq (o : Byte)
  /-- 0xF1 `SBC (dp),Y` (R306). -/
  | sbcDpindy (o : Byte)
  /-- 0xF2 `SBC (dp)` (R306). -/
  | sbcDpind (o : Byte)
  /-- 0xF3 `SBC (sr,S),Y` (R306). -/
  | sbcSrindy (o : Byte)
  /-- 0xF4 `PEA addr` (R263). -/
  | pea (o : Word)
  /-- 0xF5 `SBC dp,X` (R306). -/
  | sbcDpx (o : Byte)
  /-- 0xF6 `INC dp,X` (R314). -/
  | incDpx (o : Byte)
  /-- 0xF7 `SBC [dp],Y` (R306). -/
  | sbcDpindly (o : Byte)
  /-- 0xF9 `SBC addr,Y` (R306). -/
  | sbcAbsy (o : Word)
  /-- 0xFC `JSR (addr,X)` (R377). -/
  | jsrAbsxind (o : Word)
  /-- 0xFD `SBC addr,X` (R306). -/
  | sbcAbsx (o : Word)
  /-- 0xFE `INC addr,X` (R314). -/
  | incAbsx (o : Word)
  /-- 0xFF `SBC long,X` (R306). -/
  | sbcLongx (o : Addr)
  /-- 0x08 `PHP` (R253). -/
  | php
  /-- 0x0A `ASL A` (R320). -/
  | aslAcc
  /-- 0x0B `PHD` (R255). -/
  | phd
  /-- 0x18 `CLC` (R405). -/
  | clc
  /-- 0x1A `INC A` (R314). -/
  | incAcc
  /-- 0x1B `TCS` (R243). -/
  | tcs
  /-- 0x28 `PLP` (R260). -/
  | plp
  /-- 0x2A `ROL A` (R322). -/
  | rolAcc
  /-- 0x2B `PLD` (R262). -/
  | pld
  /-- 0x38 `SEC` (R406). -/
  | sec
  /-- 0x3A `DEC A` (R315). -/
  | decAcc
  /-- 0x3B `TSC` (R244). -/
  | tsc
  /-- 0x40 `RTI` (R381). -/
  | rti
  /-- 0x48 `PHA` (R250). -/
  | pha
  /-- 0x4A `LSR A` (R321). -/
  | lsrAcc
  /-- 0x4B `PHK` (R256). -/
  | phk
  /-- 0x58 `CLI` (R407). -/
  | cli
  /-- 0x5A `PHY` (R252). -/
  | phy
  /-- 0x5B `TCD` (R245). -/
  | tcd
  /-- 0x60 `RTS` (R379). -/
  | rts
  /-- 0x68 `PLA` (R257). -/
  | pla
  /-- 0x6A `ROR A` (R323). -/
  | rorAcc
  /-- 0x6B `RTL` (R380). -/
  | rtl
  /-- 0x78 `SEI` (R408). -/
  | sei
  /-- 0x7A `PLY` (R259). -/
  | ply
  /-- 0x7B `TDC` (R246). -/
  | tdc
  /-- 0x88 `DEY` (R319). -/
  | dey
  /-- 0x8A `TXA` (R237). -/
  | txa
  /-- 0x8B `PHB` (R254). -/
  | phb
  /-- 0x98 `TYA` (R238). -/
  | tya
  /-- 0x9A `TXS` (R242). -/
  | txs
  /-- 0x9B `TXY` (R239). -/
  | txy
  /-- 0xA8 `TAY` (R236). -/
  | tay
  /-- 0xAA `TAX` (R235). -/
  | tax
  /-- 0xAB `PLB` (R261). -/
  | plb
  /-- 0xB8 `CLV` (R411). -/
  | clv
  /-- 0xBA `TSX` (R241). -/
  | tsx
  /-- 0xBB `TYX` (R240). -/
  | tyx
  /-- 0xC8 `INY` (R317). -/
  | iny
  /-- 0xCA `DEX` (R318). -/
  | dex
  /-- 0xCB `WAI` (R424). -/
  | wai
  /-- 0xD8 `CLD` (R409). -/
  | cld
  /-- 0xDA `PHX` (R251). -/
  | phx
  /-- 0xDB `STP` (R425). -/
  | stp
  /-- 0xE8 `INX` (R316). -/
  | inx
  /-- 0xEA `NOP` (R415). -/
  | nop
  /-- 0xEB `XBA` (R247). -/
  | xba
  /-- 0xF8 `SED` (R410). -/
  | sed
  /-- 0xFA `PLX` (R258). -/
  | plx
  /-- 0xFB `XCE` (R414). -/
  | xce
  deriving DecidableEq, Repr

/-! Classification of the constructors by what their rows share, for statements about several rows at once. It gives no
meaning: Machine/Dispatch.lean does. -/

/-- The mnemonics that read one operand and write registers or flags only (R225-R227, R305-R313). -/
inductive ReadOp where
  | lda | ldx | ldy | adc | sbc | cmp | cpx | cpy | and | ora | eor | bit
  deriving DecidableEq, Repr

/-- The store mnemonics (R228-R231). -/
inductive StoreOp where
  | sta | stx | sty | stz
  deriving DecidableEq, Repr

/-- The read-modify-write mnemonics (R314, R315, R320-R325). -/
inductive RmwOp where
  | asl | lsr | rol | ror | inc | dec | tsb | trb
  deriving DecidableEq, Repr

/-- The mnemonics with an 8-bit displacement (R365-R373). -/
inductive BranchOp where
  | bpl | bmi | bvc | bvs | bcc | bcs | bne | beq | bra
  deriving DecidableEq, Repr

/-- What the rows of one shape have in common. -/
inductive Form where
  /-- reads its operand in the given mode -/
  | read (op : ReadOp) (m : Mode)
  /-- stores in the given mode -/
  | store (op : StoreOp) (m : Mode)
  /-- reads, modifies and writes the operand of the given mode -/
  | rmw (op : RmwOp) (m : Mode)
  /-- the accumulator form of a read-modify-write mnemonic -/
  | acc (op : RmwOp)
  /-- an 8-bit relative branch -/
  | branch (op : BranchOp) (r : Byte)
  /-- every other row -/
  | other
  deriving DecidableEq, Repr

/-- The form of each row (mode column of R183). -/
def Instr.form : Instr → Form
  | .brk _ => .other
  | .oraDpxind o => .read .ora (.dpxind o)
  | .cop _ => .other
  | .oraSr o => .read .ora (.sr o)
  | .tsbDp o => .rmw .tsb (.dp o)
  | .oraDp o => .read .ora (.dp o)
  | .aslDp o => .rmw .asl (.dp o)
  | .oraDpindl o => .read .ora (.dpindl o)
  | .php => .other
  | .oraImm o => .read .ora (.imm o)
  | .aslAcc => .acc .asl
  | .phd => .other
  | .tsbAbs o => .rmw .tsb (.abs o)
  | .oraAbs o => .read .ora (.abs o)
  | .aslAbs o => .rmw .asl (.abs o)
  | .oraLong o => .read .ora (.long o)
  | .bpl o => .branch .bpl o
  | .oraDpindy o => .read .ora (.dpindy o)
  | .oraDpind o => .read .ora (.dpind o)
  | .oraSrindy o => .read .ora (.srindy o)
  | .trbDp o => .rmw .trb (.dp o)
  | .oraDpx o => .read .ora (.dpx o)
  | .aslDpx o => .rmw .asl (.dpx o)
  | .oraDpindly o => .read .ora (.dpindly o)
  | .clc => .other
  | .oraAbsy o => .read .ora (.absy o)
  | .incAcc => .acc .inc
  | .tcs => .other
  | .trbAbs o => .rmw .trb (.abs o)
  | .oraAbsx o => .read .ora (.absx o)
  | .aslAbsx o => .rmw .asl (.absx o)
  | .oraLongx o => .read .ora (.longx o)
  | .jsrAbs _ => .other
  | .andDpxind o => .read .and (.dpxind o)
  | .jsl _ => .other
  | .andSr o => .read .and (.sr o)
  | .bitDp o => .read .bit (.dp o)
  | .andDp o => .read .and (.dp o)
  | .rolDp o => .rmw .rol (.dp o)
  | .andDpindl o => .read .and (.dpindl o)
  | .plp => .other
  | .andImm o => .read .and (.imm o)
  | .rolAcc => .acc .rol
  | .pld => .other
  | .bitAbs o => .read .bit (.abs o)
  | .andAbs o => .read .and (.abs o)
  | .rolAbs o => .rmw .rol (.abs o)
  | .andLong o => .read .and (.long o)
  | .bmi o => .branch .bmi o
  | .andDpindy o => .read .and (.dpindy o)
  | .andDpind o => .read .and (.dpind o)
  | .andSrindy o => .read .and (.srindy o)
  | .bitDpx o => .read .bit (.dpx o)
  | .andDpx o => .read .and (.dpx o)
  | .rolDpx o => .rmw .rol (.dpx o)
  | .andDpindly o => .read .and (.dpindly o)
  | .sec => .other
  | .andAbsy o => .read .and (.absy o)
  | .decAcc => .acc .dec
  | .tsc => .other
  | .bitAbsx o => .read .bit (.absx o)
  | .andAbsx o => .read .and (.absx o)
  | .rolAbsx o => .rmw .rol (.absx o)
  | .andLongx o => .read .and (.longx o)
  | .rti => .other
  | .eorDpxind o => .read .eor (.dpxind o)
  | .wdm _ => .other
  | .eorSr o => .read .eor (.sr o)
  | .mvp _ _ => .other
  | .eorDp o => .read .eor (.dp o)
  | .lsrDp o => .rmw .lsr (.dp o)
  | .eorDpindl o => .read .eor (.dpindl o)
  | .pha => .other
  | .eorImm o => .read .eor (.imm o)
  | .lsrAcc => .acc .lsr
  | .phk => .other
  | .jmpAbs _ => .other
  | .eorAbs o => .read .eor (.abs o)
  | .lsrAbs o => .rmw .lsr (.abs o)
  | .eorLong o => .read .eor (.long o)
  | .bvc o => .branch .bvc o
  | .eorDpindy o => .read .eor (.dpindy o)
  | .eorDpind o => .read .eor (.dpind o)
  | .eorSrindy o => .read .eor (.srindy o)
  | .mvn _ _ => .other
  | .eorDpx o => .read .eor (.dpx o)
  | .lsrDpx o => .rmw .lsr (.dpx o)
  | .eorDpindly o => .read .eor (.dpindly o)
  | .cli => .other
  | .eorAbsy o => .read .eor (.absy o)
  | .phy => .other
  | .tcd => .other
  | .jmlLong _ => .other
  | .eorAbsx o => .read .eor (.absx o)
  | .lsrAbsx o => .rmw .lsr (.absx o)
  | .eorLongx o => .read .eor (.longx o)
  | .rts => .other
  | .adcDpxind o => .read .adc (.dpxind o)
  | .per _ => .other
  | .adcSr o => .read .adc (.sr o)
  | .stzDp o => .store .stz (.dp o)
  | .adcDp o => .read .adc (.dp o)
  | .rorDp o => .rmw .ror (.dp o)
  | .adcDpindl o => .read .adc (.dpindl o)
  | .pla => .other
  | .adcImm o => .read .adc (.imm o)
  | .rorAcc => .acc .ror
  | .rtl => .other
  | .jmpAbsind _ => .other
  | .adcAbs o => .read .adc (.abs o)
  | .rorAbs o => .rmw .ror (.abs o)
  | .adcLong o => .read .adc (.long o)
  | .bvs o => .branch .bvs o
  | .adcDpindy o => .read .adc (.dpindy o)
  | .adcDpind o => .read .adc (.dpind o)
  | .adcSrindy o => .read .adc (.srindy o)
  | .stzDpx o => .store .stz (.dpx o)
  | .adcDpx o => .read .adc (.dpx o)
  | .rorDpx o => .rmw .ror (.dpx o)
  | .adcDpindly o => .read .adc (.dpindly o)
  | .sei => .other
  | .adcAbsy o => .read .adc (.absy o)
  | .ply => .other
  | .tdc => .other
  | .jmpAbsxind _ => .other
  | .adcAbsx o => .read .adc (.absx o)
  | .rorAbsx o => .rmw .ror (.absx o)
  | .adcLongx o => .read .adc (.longx o)
  | .bra o => .branch .bra o
  | .staDpxind o => .store .sta (.dpxind o)
  | .brl _ => .other
  | .staSr o => .store .sta (.sr o)
  | .styDp o => .store .sty (.dp o)
  | .staDp o => .store .sta (.dp o)
  | .stxDp o => .store .stx (.dp o)
  | .staDpindl o => .store .sta (.dpindl o)
  | .dey => .other
  | .bitImm o => .read .bit (.imm o)
  | .txa => .other
  | .phb => .other
  | .styAbs o => .store .sty (.abs o)
  | .staAbs o => .store .sta (.abs o)
  | .stxAbs o => .store .stx (.abs o)
  | .staLong o => .store .sta (.long o)
  | .bcc o => .branch .bcc o
  | .staDpindy o => .store .sta (.dpindy o)
  | .staDpind o => .store .sta (.dpind o)
  | .staSrindy o => .store .sta (.srindy o)
  | .styDpx o => .store .sty (.dpx o)
  | .staDpx o => .store .sta (.dpx o)
  | .stxDpy o => .store .stx (.dpy o)
  | .staDpindly o => .store .sta (.dpindly o)
  | .tya => .other
  | .staAbsy o => .store .sta (.absy o)
  | .txs => .other
  | .txy => .other
  | .stzAbs o => .store .stz (.abs o)
  | .staAbsx o => .store .sta (.absx o)
  | .stzAbsx o => .store .stz (.absx o)
  | .staLongx o => .store .sta (.longx o)
  | .ldyImm o => .read .ldy (.imm o)
  | .ldaDpxind o => .read .lda (.dpxind o)
  | .ldxImm o => .read .ldx (.imm o)
  | .ldaSr o => .read .lda (.sr o)
  | .ldyDp o => .read .ldy (.dp o)
  | .ldaDp o => .read .lda (.dp o)
  | .ldxDp o => .read .ldx (.dp o)
  | .ldaDpindl o => .read .lda (.dpindl o)
  | .tay => .other
  | .ldaImm o => .read .lda (.imm o)
  | .tax => .other
  | .plb => .other
  | .ldyAbs o => .read .ldy (.abs o)
  | .ldaAbs o => .read .lda (.abs o)
  | .ldxAbs o => .read .ldx (.abs o)
  | .ldaLong o => .read .lda (.long o)
  | .bcs o => .branch .bcs o
  | .ldaDpindy o => .read .lda (.dpindy o)
  | .ldaDpind o => .read .lda (.dpind o)
  | .ldaSrindy o => .read .lda (.srindy o)
  | .ldyDpx o => .read .ldy (.dpx o)
  | .ldaDpx o => .read .lda (.dpx o)
  | .ldxDpy o => .read .ldx (.dpy o)
  | .ldaDpindly o => .read .lda (.dpindly o)
  | .clv => .other
  | .ldaAbsy o => .read .lda (.absy o)
  | .tsx => .other
  | .tyx => .other
  | .ldyAbsx o => .read .ldy (.absx o)
  | .ldaAbsx o => .read .lda (.absx o)
  | .ldxAbsy o => .read .ldx (.absy o)
  | .ldaLongx o => .read .lda (.longx o)
  | .cpyImm o => .read .cpy (.imm o)
  | .cmpDpxind o => .read .cmp (.dpxind o)
  | .rep _ => .other
  | .cmpSr o => .read .cmp (.sr o)
  | .cpyDp o => .read .cpy (.dp o)
  | .cmpDp o => .read .cmp (.dp o)
  | .decDp o => .rmw .dec (.dp o)
  | .cmpDpindl o => .read .cmp (.dpindl o)
  | .iny => .other
  | .cmpImm o => .read .cmp (.imm o)
  | .dex => .other
  | .wai => .other
  | .cpyAbs o => .read .cpy (.abs o)
  | .cmpAbs o => .read .cmp (.abs o)
  | .decAbs o => .rmw .dec (.abs o)
  | .cmpLong o => .read .cmp (.long o)
  | .bne o => .branch .bne o
  | .cmpDpindy o => .read .cmp (.dpindy o)
  | .cmpDpind o => .read .cmp (.dpind o)
  | .cmpSrindy o => .read .cmp (.srindy o)
  | .pei _ => .other
  | .cmpDpx o => .read .cmp (.dpx o)
  | .decDpx o => .rmw .dec (.dpx o)
  | .cmpDpindly o => .read .cmp (.dpindly o)
  | .cld => .other
  | .cmpAbsy o => .read .cmp (.absy o)
  | .phx => .other
  | .stp => .other
  | .jmlAbsindl _ => .other
  | .cmpAbsx o => .read .cmp (.absx o)
  | .decAbsx o => .rmw .dec (.absx o)
  | .cmpLongx o => .read .cmp (.longx o)
  | .cpxImm o => .read .cpx (.imm o)
  | .sbcDpxind o => .read .sbc (.dpxind o)
  | .sep _ => .other
  | .sbcSr o => .read .sbc (.sr o)
  | .cpxDp o => .read .cpx (.dp o)
  | .sbcDp o => .read .sbc (.dp o)
  | .incDp o => .rmw .inc (.dp o)
  | .sbcDpindl o => .read .sbc (.dpindl o)
  | .inx => .other
  | .sbcImm o => .read .sbc (.imm o)
  | .nop => .other
  | .xba => .other
  | .cpxAbs o => .read .cpx (.abs o)
  | .sbcAbs o => .read .sbc (.abs o)
  | .incAbs o => .rmw .inc (.abs o)
  | .sbcLong o => .read .sbc (.long o)
  | .beq o => .branch .beq o
  | .sbcDpindy o => .read .sbc (.dpindy o)
  | .sbcDpind o => .read .sbc (.dpind o)
  | .sbcSrindy o => .read .sbc (.srindy o)
  | .pea _ => .other
  | .sbcDpx o => .read .sbc (.dpx o)
  | .incDpx o => .rmw .inc (.dpx o)
  | .sbcDpindly o => .read .sbc (.dpindly o)
  | .sed => .other
  | .sbcAbsy o => .read .sbc (.absy o)
  | .plx => .other
  | .xce => .other
  | .jsrAbsxind _ => .other
  | .sbcAbsx o => .read .sbc (.absx o)
  | .incAbsx o => .rmw .inc (.absx o)
  | .sbcLongx o => .read .sbc (.longx o)

end Sys2Proof
end

