-- ==== Sys2Proof/Machine/Operands.lean ====
section
/-! DEFINITION. The data-addressing modes (30_encoding.md R175-R177): effective addresses with their internal cycles
(70_reset_and_hazards.md R640) and pointer reads, operand reads and writes, and the four shapes of instruction with a
memory operand. Operand bytes are already fetched (Machine/Step.lean): an immediate carries its value. -/

namespace Sys2Proof.Machine

/-- The address of byte k of an operand, as R175 and R176 give it for each group of modes. -/
inductive EA where
  /-- `dpa(t, k)` under the given D, with the emulation-mode page wrap or without (R176) -/
  | direct (d t : Word) (pageWrap : Bool)
  /-- `lin24(b, k)` (R175) -/
  | linear (b : Addr)
  /-- `0x00:(b + k)`, wrapping in bank 0 (R175, stack relative), or within page 1 (R176) -/
  | stackRel (b : Word) (pageWrap : Bool)
  deriving DecidableEq, Repr

/-- Byte k's bus address (R175, R176). -/
def EA.byte (k : Nat) : EA → Addr
  | .direct d t pageWrap =>
    if pageWrap then long 0x00 (word (hi d) (lo (t + BitVec.ofNat 16 k)))
    else long 0x00 (d + t + BitVec.ofNat 16 k)
  | .linear b => b + BitVec.ofNat 24 k
  | .stackRel b pageWrap =>
    if pageWrap then long 0x00 (word 0x01 (lo (b + BitVec.ofNat 16 k))) else long 0x00 (b + BitVec.ofNat 16 k)

/-- The direct-page address of a 16-bit sum t (R176): pages wrap when E = 1 and D[7:0] = 0. -/
def Cpu.dpa (c : Cpu) (t : Word) : EA := .direct c.d t (c.e && decide (lo c.d = 0))

/-- How an instruction uses its operand: stores and read-modify-writes always take the index cycle (R640, `p`). -/
inductive Access where
  | read
  | store
  | rmw
  deriving DecidableEq, Repr

/-- R640's `d`: one internal cycle if D[7:0] is not 0. -/
def dCycle (s : State) : State := if lo s.cpu.d = 0 then s else idle s

/-- R640's `p`: one internal cycle if indexing crosses a page or P.X = 0, and always for stores and
read-modify-writes. -/
def pCycle (acc : Access) (base index : Word) (s : State) : State :=
  if decide (acc = .read) && s.cpu.p.x && decide (hi (base + index) = hi base) then s else idle s

/-- A pointer of two bytes, low byte first (R175). -/
def readPointer16 (ea : EA) (s : State) : Word × State :=
  let (l, s) := read8 (ea.byte 0) s
  let (h, s) := read8 (ea.byte 1) s
  (word h l, s)

/-- A pointer of three bytes, low byte first (R175). -/
def readPointer24 (ea : EA) (s : State) : Addr × State :=
  let (p, s) := readPointer16 ea s
  let (b, s) := read8 (ea.byte 2) s
  (long b p, s)

/-- A word as a 24-bit offset. -/
def ext24 (v : Word) : Addr := v.setWidth 24

/-- `sr,S`: the stack-relative address, modulo 2^16 by R175. In emulation mode R176 can be read as wrapping it within page 1
"by rule R34", which speaks of pushes and pulls; the parameter `srPageWrap` holds that reading (DESIGN CHOICE, log entry
26). -/
def State.sra (s : State) (o : Byte) : EA := .stackRel (s.cpu.s + zext o) (s.params.srPageWrap && s.cpu.e)

/-- EA of each mode, with the cycles before the data access (R175, R640). An immediate has none; the direct page at its
own address stands for it and is never read. -/
def effAddr (acc : Access) (m : Mode) (s : State) : EA × State :=
  match m with
  | .imm _ => (s.cpu.dpa 0, s)
  | .dp o =>
    let s := dCycle s
    (s.cpu.dpa (zext o), s)
  | .dpx o =>
    let s := idle (dCycle s)
    (s.cpu.dpa (zext o + s.cpu.x), s)
  | .dpy o =>
    let s := idle (dCycle s)
    (s.cpu.dpa (zext o + s.cpu.y), s)
  | .dpind o =>
    let s := dCycle s
    let (p, s) := readPointer16 (s.cpu.dpa (zext o)) s
    (.linear (long s.cpu.db p), s)
  | .dpxind o =>
    let s := idle (dCycle s)
    let (p, s) := readPointer16 (s.cpu.dpa (zext o + s.cpu.x)) s
    (.linear (long s.cpu.db p), s)
  | .dpindy o =>
    let s := dCycle s
    let (p, s) := readPointer16 (s.cpu.dpa (zext o)) s
    let s := pCycle acc p s.cpu.y s
    (.linear (long s.cpu.db p + ext24 s.cpu.y), s)
  | .dpindl o =>
    let s := dCycle s
    let (q, s) := readPointer24 (s.cpu.dpa (zext o)) s
    (.linear q, s)
  | .dpindly o =>
    let s := dCycle s
    let (q, s) := readPointer24 (s.cpu.dpa (zext o)) s
    (.linear (q + ext24 s.cpu.y), s)
  | .abs o => (.linear (long s.cpu.db o), s)
  | .absx o =>
    let s := pCycle acc o s.cpu.x s
    (.linear (long s.cpu.db o + ext24 s.cpu.x), s)
  | .absy o =>
    let s := pCycle acc o s.cpu.y s
    (.linear (long s.cpu.db o + ext24 s.cpu.y), s)
  | .long o => (.linear o, s)
  | .longx o => (.linear (o + ext24 s.cpu.x), s)
  | .sr o =>
    let s := idle s
    (s.sra o, s)
  | .srindy o =>
    let s := idle s
    let (p, s) := readPointer16 (s.sra o) s
    let s := idle s
    (.linear (long s.cpu.db p + ext24 s.cpu.y), s)

/-- A value of width w read at an effective address, byte 0 first (R177, R220). -/
def readEA (w : Width) (ea : EA) (s : State) : Word × State :=
  let (l, s) := read8 (ea.byte 0) s
  match w with
  | .w8 => (zext l, s)
  | .w16 =>
    let (h, s) := read8 (ea.byte 1) s
    (word h l, s)

/-- A value of width w written at an effective address, byte 0 first (R177, R220). -/
def writeEA (w : Width) (ea : EA) (v : Word) (s : State) : State :=
  let s := write8 (ea.byte 0) (lo v) s
  match w with
  | .w8 => s
  | .w16 => write8 (ea.byte 1) (hi v) s

/-- `ea_write_rmw`: the high byte first (R177, R314). -/
def writeEARmw (w : Width) (ea : EA) (v : Word) (s : State) : State :=
  match w with
  | .w8 => write8 (ea.byte 0) (lo v) s
  | .w16 => write8 (ea.byte 0) (lo v) (write8 (ea.byte 1) (hi v) s)

/-- The value of an immediate, as fetched (R173). -/
def Imm.value : Imm → Word
  | .b8 v => zext v
  | .w16 v => v

/-- `ea_read(mode, w)` (R220). -/
def eaRead (w : Width) (m : Mode) (s : State) : Word × State :=
  match m with
  | .imm v => (trunc w (Imm.value v), s)
  | _ =>
    let (ea, s) := effAddr .read m s
    readEA w ea s

/-- An instruction that reads its operand and then changes registers: `op` is given the width, the value and the
registers. -/
def readOperand (w : Width) (m : Mode) (op : Width → Word → Cpu → Cpu) (s : State) : State :=
  let (v, s) := eaRead w m s
  s.mapCpu (op w v)

/-- An instruction that stores the value v (R228-R231). -/
def storeOperand (w : Width) (m : Mode) (v : Word) (s : State) : State :=
  let (ea, s) := effAddr .store m s
  writeEA w ea v s

/-- The memory form of a read-modify-write instruction: read, one internal cycle, write high byte first (R177, R314,
R320, R324). -/
def modifyOperand (m : Mode) (op : Width → Word → Word → Status → Rmw) (s : State) : State :=
  let w := s.cpu.mw
  let (ea, s) := effAddr .rmw m s
  let (v, s) := readEA w ea s
  let s := idle s
  let r := op w s.cpu.a v s.cpu.p
  let s := writeEARmw w ea r.value s
  s.mapCpu (fun c => { c with p := r.p })

/-- The accumulator form of a read-modify-write instruction (R314, R320). -/
def modifyAccumulator (op : Width → Word → Word → Status → Rmw) (s : State) : State :=
  implied 1 (fun c =>
    let r := op c.mw c.a (c.regA c.mw) c.p
    { c.setA c.mw r.value with p := r.p }) s

end Sys2Proof.Machine
end

