-- ==== Sys2Proof/Machine/Arithmetic.lean ====
section
/-! DEFINITION. Addition, subtraction, comparison, increment and decrement (41_arith_logic.md R305-R309, R314-R319). -/

namespace Sys2Proof.Machine

/-- ADC (R305). -/
def opAdc (w : Width) (v : Word) (c : Cpu) : Cpu :=
  let r := addCore w false c.p.d c.a v c.p.c
  { c.setA w r.value with p := r.flags w c.p }
/-- SBC: addition of the complemented operand (R306). -/
def opSbc (w : Width) (v : Word) (c : Cpu) : Cpu :=
  let r := addCore w true c.p.d c.a (~~~v) c.p.c
  { c.setA w r.value with p := r.flags w c.p }
/-- CMP (R307). -/
def opCmp (w : Width) (v : Word) (c : Cpu) : Cpu := { c with p := compare w c.a v c.p }
/-- CPX (R308). -/
def opCpx (w : Width) (v : Word) (c : Cpu) : Cpu := { c with p := compare w c.x v c.p }
/-- CPY (R309). -/
def opCpy (w : Width) (v : Word) (c : Cpu) : Cpu := { c with p := compare w c.y v c.p }
/-- INX (R316). -/
def opInx (c : Cpu) : Cpu := { c.setX (c.x + 1) with p := setNZ c.xw (c.x + 1) c.p }
/-- INY (R317). -/
def opIny (c : Cpu) : Cpu := { c.setY (c.y + 1) with p := setNZ c.xw (c.y + 1) c.p }
/-- DEX (R318). -/
def opDex (c : Cpu) : Cpu := { c.setX (c.x - 1) with p := setNZ c.xw (c.x - 1) c.p }
/-- DEY (R319). -/
def opDey (c : Cpu) : Cpu := { c.setY (c.y - 1) with p := setNZ c.xw (c.y - 1) c.p }

/-- 0x61 `ADC (dp,X)` (R305). -/
def execAdcDpxind (o : Byte) (s : State) : Host.Outcome State Fault Refusal :=
  .next (readOperand s.cpu.mw (.dpxind o) opAdc s)

/-- 0x63 `ADC sr,S` (R305). -/
def execAdcSr (o : Byte) (s : State) : Host.Outcome State Fault Refusal :=
  .next (readOperand s.cpu.mw (.sr o) opAdc s)

/-- 0x65 `ADC dp` (R305). -/
def execAdcDp (o : Byte) (s : State) : Host.Outcome State Fault Refusal :=
  .next (readOperand s.cpu.mw (.dp o) opAdc s)

/-- 0x67 `ADC [dp]` (R305). -/
def execAdcDpindl (o : Byte) (s : State) : Host.Outcome State Fault Refusal :=
  .next (readOperand s.cpu.mw (.dpindl o) opAdc s)

/-- 0x69 `ADC #const` (R305). -/
def execAdcImm (o : Imm) (s : State) : Host.Outcome State Fault Refusal :=
  .next (readOperand s.cpu.mw (.imm o) opAdc s)

/-- 0x6D `ADC addr` (R305). -/
def execAdcAbs (o : Word) (s : State) : Host.Outcome State Fault Refusal :=
  .next (readOperand s.cpu.mw (.abs o) opAdc s)

/-- 0x6F `ADC long` (R305). -/
def execAdcLong (o : Addr) (s : State) : Host.Outcome State Fault Refusal :=
  .next (readOperand s.cpu.mw (.long o) opAdc s)

/-- 0x71 `ADC (dp),Y` (R305). -/
def execAdcDpindy (o : Byte) (s : State) : Host.Outcome State Fault Refusal :=
  .next (readOperand s.cpu.mw (.dpindy o) opAdc s)

/-- 0x72 `ADC (dp)` (R305). -/
def execAdcDpind (o : Byte) (s : State) : Host.Outcome State Fault Refusal :=
  .next (readOperand s.cpu.mw (.dpind o) opAdc s)

/-- 0x73 `ADC (sr,S),Y` (R305). -/
def execAdcSrindy (o : Byte) (s : State) : Host.Outcome State Fault Refusal :=
  .next (readOperand s.cpu.mw (.srindy o) opAdc s)

/-- 0x75 `ADC dp,X` (R305). -/
def execAdcDpx (o : Byte) (s : State) : Host.Outcome State Fault Refusal :=
  .next (readOperand s.cpu.mw (.dpx o) opAdc s)

/-- 0x77 `ADC [dp],Y` (R305). -/
def execAdcDpindly (o : Byte) (s : State) : Host.Outcome State Fault Refusal :=
  .next (readOperand s.cpu.mw (.dpindly o) opAdc s)

/-- 0x79 `ADC addr,Y` (R305). -/
def execAdcAbsy (o : Word) (s : State) : Host.Outcome State Fault Refusal :=
  .next (readOperand s.cpu.mw (.absy o) opAdc s)

/-- 0x7D `ADC addr,X` (R305). -/
def execAdcAbsx (o : Word) (s : State) : Host.Outcome State Fault Refusal :=
  .next (readOperand s.cpu.mw (.absx o) opAdc s)

/-- 0x7F `ADC long,X` (R305). -/
def execAdcLongx (o : Addr) (s : State) : Host.Outcome State Fault Refusal :=
  .next (readOperand s.cpu.mw (.longx o) opAdc s)

/-- 0xE1 `SBC (dp,X)` (R306). -/
def execSbcDpxind (o : Byte) (s : State) : Host.Outcome State Fault Refusal :=
  .next (readOperand s.cpu.mw (.dpxind o) opSbc s)

/-- 0xE3 `SBC sr,S` (R306). -/
def execSbcSr (o : Byte) (s : State) : Host.Outcome State Fault Refusal :=
  .next (readOperand s.cpu.mw (.sr o) opSbc s)

/-- 0xE5 `SBC dp` (R306). -/
def execSbcDp (o : Byte) (s : State) : Host.Outcome State Fault Refusal :=
  .next (readOperand s.cpu.mw (.dp o) opSbc s)

/-- 0xE7 `SBC [dp]` (R306). -/
def execSbcDpindl (o : Byte) (s : State) : Host.Outcome State Fault Refusal :=
  .next (readOperand s.cpu.mw (.dpindl o) opSbc s)

/-- 0xE9 `SBC #const` (R306). -/
def execSbcImm (o : Imm) (s : State) : Host.Outcome State Fault Refusal :=
  .next (readOperand s.cpu.mw (.imm o) opSbc s)

/-- 0xED `SBC addr` (R306). -/
def execSbcAbs (o : Word) (s : State) : Host.Outcome State Fault Refusal :=
  .next (readOperand s.cpu.mw (.abs o) opSbc s)

/-- 0xEF `SBC long` (R306). -/
def execSbcLong (o : Addr) (s : State) : Host.Outcome State Fault Refusal :=
  .next (readOperand s.cpu.mw (.long o) opSbc s)

/-- 0xF1 `SBC (dp),Y` (R306). -/
def execSbcDpindy (o : Byte) (s : State) : Host.Outcome State Fault Refusal :=
  .next (readOperand s.cpu.mw (.dpindy o) opSbc s)

/-- 0xF2 `SBC (dp)` (R306). -/
def execSbcDpind (o : Byte) (s : State) : Host.Outcome State Fault Refusal :=
  .next (readOperand s.cpu.mw (.dpind o) opSbc s)

/-- 0xF3 `SBC (sr,S),Y` (R306). -/
def execSbcSrindy (o : Byte) (s : State) : Host.Outcome State Fault Refusal :=
  .next (readOperand s.cpu.mw (.srindy o) opSbc s)

/-- 0xF5 `SBC dp,X` (R306). -/
def execSbcDpx (o : Byte) (s : State) : Host.Outcome State Fault Refusal :=
  .next (readOperand s.cpu.mw (.dpx o) opSbc s)

/-- 0xF7 `SBC [dp],Y` (R306). -/
def execSbcDpindly (o : Byte) (s : State) : Host.Outcome State Fault Refusal :=
  .next (readOperand s.cpu.mw (.dpindly o) opSbc s)

/-- 0xF9 `SBC addr,Y` (R306). -/
def execSbcAbsy (o : Word) (s : State) : Host.Outcome State Fault Refusal :=
  .next (readOperand s.cpu.mw (.absy o) opSbc s)

/-- 0xFD `SBC addr,X` (R306). -/
def execSbcAbsx (o : Word) (s : State) : Host.Outcome State Fault Refusal :=
  .next (readOperand s.cpu.mw (.absx o) opSbc s)

/-- 0xFF `SBC long,X` (R306). -/
def execSbcLongx (o : Addr) (s : State) : Host.Outcome State Fault Refusal :=
  .next (readOperand s.cpu.mw (.longx o) opSbc s)

/-- 0xC1 `CMP (dp,X)` (R307). -/
def execCmpDpxind (o : Byte) (s : State) : Host.Outcome State Fault Refusal :=
  .next (readOperand s.cpu.mw (.dpxind o) opCmp s)

/-- 0xC3 `CMP sr,S` (R307). -/
def execCmpSr (o : Byte) (s : State) : Host.Outcome State Fault Refusal :=
  .next (readOperand s.cpu.mw (.sr o) opCmp s)

/-- 0xC5 `CMP dp` (R307). -/
def execCmpDp (o : Byte) (s : State) : Host.Outcome State Fault Refusal :=
  .next (readOperand s.cpu.mw (.dp o) opCmp s)

/-- 0xC7 `CMP [dp]` (R307). -/
def execCmpDpindl (o : Byte) (s : State) : Host.Outcome State Fault Refusal :=
  .next (readOperand s.cpu.mw (.dpindl o) opCmp s)

/-- 0xC9 `CMP #const` (R307). -/
def execCmpImm (o : Imm) (s : State) : Host.Outcome State Fault Refusal :=
  .next (readOperand s.cpu.mw (.imm o) opCmp s)

/-- 0xCD `CMP addr` (R307). -/
def execCmpAbs (o : Word) (s : State) : Host.Outcome State Fault Refusal :=
  .next (readOperand s.cpu.mw (.abs o) opCmp s)

/-- 0xCF `CMP long` (R307). -/
def execCmpLong (o : Addr) (s : State) : Host.Outcome State Fault Refusal :=
  .next (readOperand s.cpu.mw (.long o) opCmp s)

/-- 0xD1 `CMP (dp),Y` (R307). -/
def execCmpDpindy (o : Byte) (s : State) : Host.Outcome State Fault Refusal :=
  .next (readOperand s.cpu.mw (.dpindy o) opCmp s)

/-- 0xD2 `CMP (dp)` (R307). -/
def execCmpDpind (o : Byte) (s : State) : Host.Outcome State Fault Refusal :=
  .next (readOperand s.cpu.mw (.dpind o) opCmp s)

/-- 0xD3 `CMP (sr,S),Y` (R307). -/
def execCmpSrindy (o : Byte) (s : State) : Host.Outcome State Fault Refusal :=
  .next (readOperand s.cpu.mw (.srindy o) opCmp s)

/-- 0xD5 `CMP dp,X` (R307). -/
def execCmpDpx (o : Byte) (s : State) : Host.Outcome State Fault Refusal :=
  .next (readOperand s.cpu.mw (.dpx o) opCmp s)

/-- 0xD7 `CMP [dp],Y` (R307). -/
def execCmpDpindly (o : Byte) (s : State) : Host.Outcome State Fault Refusal :=
  .next (readOperand s.cpu.mw (.dpindly o) opCmp s)

/-- 0xD9 `CMP addr,Y` (R307). -/
def execCmpAbsy (o : Word) (s : State) : Host.Outcome State Fault Refusal :=
  .next (readOperand s.cpu.mw (.absy o) opCmp s)

/-- 0xDD `CMP addr,X` (R307). -/
def execCmpAbsx (o : Word) (s : State) : Host.Outcome State Fault Refusal :=
  .next (readOperand s.cpu.mw (.absx o) opCmp s)

/-- 0xDF `CMP long,X` (R307). -/
def execCmpLongx (o : Addr) (s : State) : Host.Outcome State Fault Refusal :=
  .next (readOperand s.cpu.mw (.longx o) opCmp s)

/-- 0xE0 `CPX #const` (R308). -/
def execCpxImm (o : Imm) (s : State) : Host.Outcome State Fault Refusal :=
  .next (readOperand s.cpu.xw (.imm o) opCpx s)

/-- 0xE4 `CPX dp` (R308). -/
def execCpxDp (o : Byte) (s : State) : Host.Outcome State Fault Refusal :=
  .next (readOperand s.cpu.xw (.dp o) opCpx s)

/-- 0xEC `CPX addr` (R308). -/
def execCpxAbs (o : Word) (s : State) : Host.Outcome State Fault Refusal :=
  .next (readOperand s.cpu.xw (.abs o) opCpx s)

/-- 0xC0 `CPY #const` (R309). -/
def execCpyImm (o : Imm) (s : State) : Host.Outcome State Fault Refusal :=
  .next (readOperand s.cpu.xw (.imm o) opCpy s)

/-- 0xC4 `CPY dp` (R309). -/
def execCpyDp (o : Byte) (s : State) : Host.Outcome State Fault Refusal :=
  .next (readOperand s.cpu.xw (.dp o) opCpy s)

/-- 0xCC `CPY addr` (R309). -/
def execCpyAbs (o : Word) (s : State) : Host.Outcome State Fault Refusal :=
  .next (readOperand s.cpu.xw (.abs o) opCpy s)

/-- 0x1A `INC A` (R314). -/
def execIncAcc (s : State) : Host.Outcome State Fault Refusal :=
  .next (modifyAccumulator rmwInc s)

/-- 0xE6 `INC dp` (R314). -/
def execIncDp (o : Byte) (s : State) : Host.Outcome State Fault Refusal :=
  .next (modifyOperand (.dp o) rmwInc s)

/-- 0xEE `INC addr` (R314). -/
def execIncAbs (o : Word) (s : State) : Host.Outcome State Fault Refusal :=
  .next (modifyOperand (.abs o) rmwInc s)

/-- 0xF6 `INC dp,X` (R314). -/
def execIncDpx (o : Byte) (s : State) : Host.Outcome State Fault Refusal :=
  .next (modifyOperand (.dpx o) rmwInc s)

/-- 0xFE `INC addr,X` (R314). -/
def execIncAbsx (o : Word) (s : State) : Host.Outcome State Fault Refusal :=
  .next (modifyOperand (.absx o) rmwInc s)

/-- 0x3A `DEC A` (R315). -/
def execDecAcc (s : State) : Host.Outcome State Fault Refusal :=
  .next (modifyAccumulator rmwDec s)

/-- 0xC6 `DEC dp` (R315). -/
def execDecDp (o : Byte) (s : State) : Host.Outcome State Fault Refusal :=
  .next (modifyOperand (.dp o) rmwDec s)

/-- 0xCE `DEC addr` (R315). -/
def execDecAbs (o : Word) (s : State) : Host.Outcome State Fault Refusal :=
  .next (modifyOperand (.abs o) rmwDec s)

/-- 0xD6 `DEC dp,X` (R315). -/
def execDecDpx (o : Byte) (s : State) : Host.Outcome State Fault Refusal :=
  .next (modifyOperand (.dpx o) rmwDec s)

/-- 0xDE `DEC addr,X` (R315). -/
def execDecAbsx (o : Word) (s : State) : Host.Outcome State Fault Refusal :=
  .next (modifyOperand (.absx o) rmwDec s)

/-- 0xE8 `INX` (R316). -/
def execInx (s : State) : Host.Outcome State Fault Refusal :=
  .next (implied 1 opInx s)

/-- 0xC8 `INY` (R317). -/
def execIny (s : State) : Host.Outcome State Fault Refusal :=
  .next (implied 1 opIny s)

/-- 0xCA `DEX` (R318). -/
def execDex (s : State) : Host.Outcome State Fault Refusal :=
  .next (implied 1 opDex s)

/-- 0x88 `DEY` (R319). -/
def execDey (s : State) : Host.Outcome State Fault Refusal :=
  .next (implied 1 opDey s)

end Sys2Proof.Machine
end

