-- ==== Sys2Proof/Machine/Control.lean ====
section
/-! DEFINITION. Branches, jumps, calls, returns and software interrupts (42_control_transfer.md R360-R383). PC is PC_next when a
meaning starts, but for the two calls that fetch an operand byte late. -/

namespace Sys2Proof.Machine

/-- `branch_to(t)`: one internal cycle, and one more in emulation mode when the page changes (R361). -/
def branchTo (t : Word) (s : State) : State :=
  let s := if s.cpu.e && decide (hi t ≠ hi s.cpu.pc) then idle s else s
  (idle s).mapCpu (fun c => c.setPc t)

/-- A branch with an 8-bit displacement, counted from PC_next, which PC is here (R365). -/
def branchIf (taken : Bool) (r : Byte) (s : State) : State :=
  if taken then branchTo (s.cpu.pc + sext r) s else s

/-- BRL (R374). -/
def branchLong (r : Word) (s : State) : State := (idle s).mapCpu (fun c => c.setPc (c.pc + r))

/-- JMP (abs): the pointer is in bank 0 (R375). -/
def jumpIndirect (o : Word) (s : State) : State :=
  let (t, s) := readVector 0x00 o s
  s.mapCpu (fun c => c.setPc t)

/-- JMP (abs,X): the pointer is in the program bank (R375). -/
def jumpIndexed (o : Word) (s : State) : State :=
  let s := idle s
  let (t, s) := readVector s.cpu.pb (o + s.cpu.x) s
  s.mapCpu (fun c => c.setPc t)

/-- JML [abs]: the pointer is in bank 0 (R376). -/
def jumpLongIndirect (o : Word) (s : State) : State :=
  let (t, s) := readVector 0x00 o s
  let (b, s) := read8 (long 0x00 (o + 2)) s
  s.mapCpu (fun c => { c with pc := t, pb := b })

/-- JSR abs: pushes the address of its last byte (R377). -/
def callAbsolute (o : Word) (s : State) : State :=
  let s := idle s
  (push16 (s.cpu.pc - 1) s).mapCpu (fun c => c.setPc o)

/-- JSR (abs,X) (R377). Only the low operand byte has been fetched when it starts, so PC is PC_next - 1: it pushes PC, with
the full S, and then fetches the high operand byte from the bus; the high byte in the syntax is what the decoder saw
(log entry 11). -/
def callIndexed (o : Word) (s : State) : State :=
  let s := forceS (push16Full s.cpu.pc s)
  let (h, s) := fetch8 s
  let s := idle s
  let (t, s) := readVector s.cpu.pb (word h (lo o) + s.cpu.x) s
  s.mapCpu (fun c => c.setPc t)

/-- JSL (R378). Only the two offset bytes have been fetched when it starts: it pushes PB, then fetches the bank byte, then
pushes PC_next - 1, all with the full S (log entry 11). -/
def callLong (o : Addr) (s : State) : State :=
  let s := idle (push8Full s.cpu.pb s)
  let (b, s) := fetch8 s
  let s := forceS (push16Full (s.cpu.pc - 1) s)
  s.mapCpu (fun c => { c with pc := offOf o, pb := b })

/-- RTS (R379). -/
def returnShort (s : State) : State :=
  let (t, s) := pull16 (idles 2 s)
  (idle s).mapCpu (fun c => c.setPc (t + 1))

/-- RTL, with the full S (R380). -/
def returnLong (s : State) : State :=
  let (t, s) := pull16Full (idles 2 s)
  let (b, s) := pull8Full s
  forceS (s.mapCpu (fun c => { c with pc := t + 1, pb := b }))

/-- 0x10 `BPL label` (R365). -/
def execBpl (o : Byte) (s : State) : Host.Outcome State Fault Refusal :=
  .next (branchIf (!s.cpu.p.n) o s)

/-- 0x30 `BMI label` (R366). -/
def execBmi (o : Byte) (s : State) : Host.Outcome State Fault Refusal :=
  .next (branchIf (s.cpu.p.n) o s)

/-- 0x50 `BVC label` (R367). -/
def execBvc (o : Byte) (s : State) : Host.Outcome State Fault Refusal :=
  .next (branchIf (!s.cpu.p.v) o s)

/-- 0x70 `BVS label` (R368). -/
def execBvs (o : Byte) (s : State) : Host.Outcome State Fault Refusal :=
  .next (branchIf (s.cpu.p.v) o s)

/-- 0x90 `BCC label` (R369). -/
def execBcc (o : Byte) (s : State) : Host.Outcome State Fault Refusal :=
  .next (branchIf (!s.cpu.p.c) o s)

/-- 0xB0 `BCS label` (R370). -/
def execBcs (o : Byte) (s : State) : Host.Outcome State Fault Refusal :=
  .next (branchIf (s.cpu.p.c) o s)

/-- 0xD0 `BNE label` (R371). -/
def execBne (o : Byte) (s : State) : Host.Outcome State Fault Refusal :=
  .next (branchIf (!s.cpu.p.z) o s)

/-- 0xF0 `BEQ label` (R372). -/
def execBeq (o : Byte) (s : State) : Host.Outcome State Fault Refusal :=
  .next (branchIf (s.cpu.p.z) o s)

/-- 0x80 `BRA label` (R373). -/
def execBra (o : Byte) (s : State) : Host.Outcome State Fault Refusal :=
  .next (branchIf true o s)

/-- 0x82 `BRL label` (R374). -/
def execBrl (o : Word) (s : State) : Host.Outcome State Fault Refusal :=
  .next (branchLong o s)

/-- 0x4C `JMP addr` (R375). -/
def execJmpAbs (o : Word) (s : State) : Host.Outcome State Fault Refusal :=
  .next (s.mapCpu (fun c => c.setPc o))

/-- 0x6C `JMP (addr)` (R375). -/
def execJmpAbsind (o : Word) (s : State) : Host.Outcome State Fault Refusal :=
  .next (jumpIndirect o s)

/-- 0x7C `JMP (addr,X)` (R375). -/
def execJmpAbsxind (o : Word) (s : State) : Host.Outcome State Fault Refusal :=
  .next (jumpIndexed o s)

/-- 0x5C `JML long` (R376). -/
def execJmlLong (o : Addr) (s : State) : Host.Outcome State Fault Refusal :=
  .next (s.mapCpu (fun c => { c with pc := offOf o, pb := bankOf o }))

/-- 0xDC `JML [addr]` (R376). -/
def execJmlAbsindl (o : Word) (s : State) : Host.Outcome State Fault Refusal :=
  .next (jumpLongIndirect o s)

/-- 0x20 `JSR addr` (R377). -/
def execJsrAbs (o : Word) (s : State) : Host.Outcome State Fault Refusal :=
  .next (callAbsolute o s)

/-- 0xFC `JSR (addr,X)` (R377). -/
def execJsrAbsxind (o : Word) (s : State) : Host.Outcome State Fault Refusal :=
  .next (callIndexed o s)

/-- 0x22 `JSL long` (R378). -/
def execJsl (o : Addr) (s : State) : Host.Outcome State Fault Refusal :=
  .next (callLong o s)

/-- 0x60 `RTS` (R379). -/
def execRts (s : State) : Host.Outcome State Fault Refusal :=
  .next (returnShort s)

/-- 0x6B `RTL` (R380). -/
def execRtl (s : State) : Host.Outcome State Fault Refusal :=
  .next (returnLong s)

/-- 0x40 `RTI` (R381). -/
def execRti (s : State) : Host.Outcome State Fault Refusal :=
  .next (returnFromInterrupt s)

/-- 0x00 `BRK #sig` (R382). The signature byte has been fetched and is ignored. -/
def execBrk (_o : Byte) (s : State) : Host.Outcome State Fault Refusal :=
  .next (enterHandler (softwareP s.cpu) (brkVector s.cpu.e) s)

/-- 0x02 `COP #sig` (R383). The signature byte has been fetched and is ignored. -/
def execCop (_o : Byte) (s : State) : Host.Outcome State Fault Refusal :=
  .next (enterHandler (softwareP s.cpu) (copVector s.cpu.e) s)

end Sys2Proof.Machine
end

