-- ==== Sys2Proof/Machine/LoadStore.lean ====
section
/-! DEFINITION. Loads and stores (40_load_store_transfer.md R225-R231): what each mnemonic does with its operand, then one
meaning per opcode. -/

namespace Sys2Proof.Machine

/-- LDA (R225). -/
def opLda (w : Width) (v : Word) (c : Cpu) : Cpu := { c.setA w v with p := setNZ w v c.p }
/-- LDX (R226). -/
def opLdx (w : Width) (v : Word) (c : Cpu) : Cpu := { c.setX v with p := setNZ w v c.p }
/-- LDY (R227). -/
def opLdy (w : Width) (v : Word) (c : Cpu) : Cpu := { c.setY v with p := setNZ w v c.p }

/-- 0xA1 `LDA (dp,X)` (R225). -/
def execLdaDpxind (o : Byte) (s : State) : Host.Outcome State Fault Refusal :=
  .next (readOperand s.cpu.mw (.dpxind o) opLda s)

/-- 0xA3 `LDA sr,S` (R225). -/
def execLdaSr (o : Byte) (s : State) : Host.Outcome State Fault Refusal :=
  .next (readOperand s.cpu.mw (.sr o) opLda s)

/-- 0xA5 `LDA dp` (R225). -/
def execLdaDp (o : Byte) (s : State) : Host.Outcome State Fault Refusal :=
  .next (readOperand s.cpu.mw (.dp o) opLda s)

/-- 0xA7 `LDA [dp]` (R225). -/
def execLdaDpindl (o : Byte) (s : State) : Host.Outcome State Fault Refusal :=
  .next (readOperand s.cpu.mw (.dpindl o) opLda s)

/-- 0xA9 `LDA #const` (R225). -/
def execLdaImm (o : Imm) (s : State) : Host.Outcome State Fault Refusal :=
  .next (readOperand s.cpu.mw (.imm o) opLda s)

/-- 0xAD `LDA addr` (R225). -/
def execLdaAbs (o : Word) (s : State) : Host.Outcome State Fault Refusal :=
  .next (readOperand s.cpu.mw (.abs o) opLda s)

/-- 0xAF `LDA long` (R225). -/
def execLdaLong (o : Addr) (s : State) : Host.Outcome State Fault Refusal :=
  .next (readOperand s.cpu.mw (.long o) opLda s)

/-- 0xB1 `LDA (dp),Y` (R225). -/
def execLdaDpindy (o : Byte) (s : State) : Host.Outcome State Fault Refusal :=
  .next (readOperand s.cpu.mw (.dpindy o) opLda s)

/-- 0xB2 `LDA (dp)` (R225). -/
def execLdaDpind (o : Byte) (s : State) : Host.Outcome State Fault Refusal :=
  .next (readOperand s.cpu.mw (.dpind o) opLda s)

/-- 0xB3 `LDA (sr,S),Y` (R225). -/
def execLdaSrindy (o : Byte) (s : State) : Host.Outcome State Fault Refusal :=
  .next (readOperand s.cpu.mw (.srindy o) opLda s)

/-- 0xB5 `LDA dp,X` (R225). -/
def execLdaDpx (o : Byte) (s : State) : Host.Outcome State Fault Refusal :=
  .next (readOperand s.cpu.mw (.dpx o) opLda s)

/-- 0xB7 `LDA [dp],Y` (R225). -/
def execLdaDpindly (o : Byte) (s : State) : Host.Outcome State Fault Refusal :=
  .next (readOperand s.cpu.mw (.dpindly o) opLda s)

/-- 0xB9 `LDA addr,Y` (R225). -/
def execLdaAbsy (o : Word) (s : State) : Host.Outcome State Fault Refusal :=
  .next (readOperand s.cpu.mw (.absy o) opLda s)

/-- 0xBD `LDA addr,X` (R225). -/
def execLdaAbsx (o : Word) (s : State) : Host.Outcome State Fault Refusal :=
  .next (readOperand s.cpu.mw (.absx o) opLda s)

/-- 0xBF `LDA long,X` (R225). -/
def execLdaLongx (o : Addr) (s : State) : Host.Outcome State Fault Refusal :=
  .next (readOperand s.cpu.mw (.longx o) opLda s)

/-- 0xA2 `LDX #const` (R226). -/
def execLdxImm (o : Imm) (s : State) : Host.Outcome State Fault Refusal :=
  .next (readOperand s.cpu.xw (.imm o) opLdx s)

/-- 0xA6 `LDX dp` (R226). -/
def execLdxDp (o : Byte) (s : State) : Host.Outcome State Fault Refusal :=
  .next (readOperand s.cpu.xw (.dp o) opLdx s)

/-- 0xAE `LDX addr` (R226). -/
def execLdxAbs (o : Word) (s : State) : Host.Outcome State Fault Refusal :=
  .next (readOperand s.cpu.xw (.abs o) opLdx s)

/-- 0xB6 `LDX dp,Y` (R226). -/
def execLdxDpy (o : Byte) (s : State) : Host.Outcome State Fault Refusal :=
  .next (readOperand s.cpu.xw (.dpy o) opLdx s)

/-- 0xBE `LDX addr,Y` (R226). -/
def execLdxAbsy (o : Word) (s : State) : Host.Outcome State Fault Refusal :=
  .next (readOperand s.cpu.xw (.absy o) opLdx s)

/-- 0xA0 `LDY #const` (R227). -/
def execLdyImm (o : Imm) (s : State) : Host.Outcome State Fault Refusal :=
  .next (readOperand s.cpu.xw (.imm o) opLdy s)

/-- 0xA4 `LDY dp` (R227). -/
def execLdyDp (o : Byte) (s : State) : Host.Outcome State Fault Refusal :=
  .next (readOperand s.cpu.xw (.dp o) opLdy s)

/-- 0xAC `LDY addr` (R227). -/
def execLdyAbs (o : Word) (s : State) : Host.Outcome State Fault Refusal :=
  .next (readOperand s.cpu.xw (.abs o) opLdy s)

/-- 0xB4 `LDY dp,X` (R227). -/
def execLdyDpx (o : Byte) (s : State) : Host.Outcome State Fault Refusal :=
  .next (readOperand s.cpu.xw (.dpx o) opLdy s)

/-- 0xBC `LDY addr,X` (R227). -/
def execLdyAbsx (o : Word) (s : State) : Host.Outcome State Fault Refusal :=
  .next (readOperand s.cpu.xw (.absx o) opLdy s)

/-- 0x81 `STA (dp,X)` (R228). -/
def execStaDpxind (o : Byte) (s : State) : Host.Outcome State Fault Refusal :=
  .next (storeOperand s.cpu.mw (.dpxind o) s.cpu.a s)

/-- 0x83 `STA sr,S` (R228). -/
def execStaSr (o : Byte) (s : State) : Host.Outcome State Fault Refusal :=
  .next (storeOperand s.cpu.mw (.sr o) s.cpu.a s)

/-- 0x85 `STA dp` (R228). -/
def execStaDp (o : Byte) (s : State) : Host.Outcome State Fault Refusal :=
  .next (storeOperand s.cpu.mw (.dp o) s.cpu.a s)

/-- 0x87 `STA [dp]` (R228). -/
def execStaDpindl (o : Byte) (s : State) : Host.Outcome State Fault Refusal :=
  .next (storeOperand s.cpu.mw (.dpindl o) s.cpu.a s)

/-- 0x8D `STA addr` (R228). -/
def execStaAbs (o : Word) (s : State) : Host.Outcome State Fault Refusal :=
  .next (storeOperand s.cpu.mw (.abs o) s.cpu.a s)

/-- 0x8F `STA long` (R228). -/
def execStaLong (o : Addr) (s : State) : Host.Outcome State Fault Refusal :=
  .next (storeOperand s.cpu.mw (.long o) s.cpu.a s)

/-- 0x91 `STA (dp),Y` (R228). -/
def execStaDpindy (o : Byte) (s : State) : Host.Outcome State Fault Refusal :=
  .next (storeOperand s.cpu.mw (.dpindy o) s.cpu.a s)

/-- 0x92 `STA (dp)` (R228). -/
def execStaDpind (o : Byte) (s : State) : Host.Outcome State Fault Refusal :=
  .next (storeOperand s.cpu.mw (.dpind o) s.cpu.a s)

/-- 0x93 `STA (sr,S),Y` (R228). -/
def execStaSrindy (o : Byte) (s : State) : Host.Outcome State Fault Refusal :=
  .next (storeOperand s.cpu.mw (.srindy o) s.cpu.a s)

/-- 0x95 `STA dp,X` (R228). -/
def execStaDpx (o : Byte) (s : State) : Host.Outcome State Fault Refusal :=
  .next (storeOperand s.cpu.mw (.dpx o) s.cpu.a s)

/-- 0x97 `STA [dp],Y` (R228). -/
def execStaDpindly (o : Byte) (s : State) : Host.Outcome State Fault Refusal :=
  .next (storeOperand s.cpu.mw (.dpindly o) s.cpu.a s)

/-- 0x99 `STA addr,Y` (R228). -/
def execStaAbsy (o : Word) (s : State) : Host.Outcome State Fault Refusal :=
  .next (storeOperand s.cpu.mw (.absy o) s.cpu.a s)

/-- 0x9D `STA addr,X` (R228). -/
def execStaAbsx (o : Word) (s : State) : Host.Outcome State Fault Refusal :=
  .next (storeOperand s.cpu.mw (.absx o) s.cpu.a s)

/-- 0x9F `STA long,X` (R228). -/
def execStaLongx (o : Addr) (s : State) : Host.Outcome State Fault Refusal :=
  .next (storeOperand s.cpu.mw (.longx o) s.cpu.a s)

/-- 0x86 `STX dp` (R229). -/
def execStxDp (o : Byte) (s : State) : Host.Outcome State Fault Refusal :=
  .next (storeOperand s.cpu.xw (.dp o) s.cpu.x s)

/-- 0x8E `STX addr` (R229). -/
def execStxAbs (o : Word) (s : State) : Host.Outcome State Fault Refusal :=
  .next (storeOperand s.cpu.xw (.abs o) s.cpu.x s)

/-- 0x96 `STX dp,Y` (R229). -/
def execStxDpy (o : Byte) (s : State) : Host.Outcome State Fault Refusal :=
  .next (storeOperand s.cpu.xw (.dpy o) s.cpu.x s)

/-- 0x84 `STY dp` (R230). -/
def execStyDp (o : Byte) (s : State) : Host.Outcome State Fault Refusal :=
  .next (storeOperand s.cpu.xw (.dp o) s.cpu.y s)

/-- 0x8C `STY addr` (R230). -/
def execStyAbs (o : Word) (s : State) : Host.Outcome State Fault Refusal :=
  .next (storeOperand s.cpu.xw (.abs o) s.cpu.y s)

/-- 0x94 `STY dp,X` (R230). -/
def execStyDpx (o : Byte) (s : State) : Host.Outcome State Fault Refusal :=
  .next (storeOperand s.cpu.xw (.dpx o) s.cpu.y s)

/-- 0x64 `STZ dp` (R231). -/
def execStzDp (o : Byte) (s : State) : Host.Outcome State Fault Refusal :=
  .next (storeOperand s.cpu.mw (.dp o) 0 s)

/-- 0x74 `STZ dp,X` (R231). -/
def execStzDpx (o : Byte) (s : State) : Host.Outcome State Fault Refusal :=
  .next (storeOperand s.cpu.mw (.dpx o) 0 s)

/-- 0x9C `STZ addr` (R231). -/
def execStzAbs (o : Word) (s : State) : Host.Outcome State Fault Refusal :=
  .next (storeOperand s.cpu.mw (.abs o) 0 s)

/-- 0x9E `STZ addr,X` (R231). -/
def execStzAbsx (o : Word) (s : State) : Host.Outcome State Fault Refusal :=
  .next (storeOperand s.cpu.mw (.absx o) 0 s)

end Sys2Proof.Machine
end

