-- ==== Sys2Proof/Machine/Logic.lean ====
section
/-! DEFINITION. Logic, bit tests, shifts and rotates (41_arith_logic.md R310-R313, R320-R325). -/

namespace Sys2Proof.Machine

/-- AND (R310). -/
def opAnd (w : Width) (v : Word) (c : Cpu) : Cpu :=
  { c.setA w (c.a &&& v) with p := setNZ w (c.a &&& v) c.p }
/-- ORA (R311). -/
def opOra (w : Width) (v : Word) (c : Cpu) : Cpu :=
  { c.setA w (c.a ||| v) with p := setNZ w (c.a ||| v) c.p }
/-- EOR (R312). -/
def opEor (w : Width) (v : Word) (c : Cpu) : Cpu :=
  { c.setA w (c.a ^^^ v) with p := setNZ w (c.a ^^^ v) c.p }
/-- BIT with a memory operand (R313). -/
def opBit (w : Width) (v : Word) (c : Cpu) : Cpu := { c with p := bitMemory w c.a v c.p }
/-- BIT with an immediate (R313). -/
def opBitImm (w : Width) (v : Word) (c : Cpu) : Cpu := { c with p := bitImmediate w c.a v c.p }

/-- 0x21 `AND (dp,X)` (R310). -/
def execAndDpxind (o : Byte) (s : State) : Host.Outcome State Fault Refusal :=
  .next (readOperand s.cpu.mw (.dpxind o) opAnd s)

/-- 0x23 `AND sr,S` (R310). -/
def execAndSr (o : Byte) (s : State) : Host.Outcome State Fault Refusal :=
  .next (readOperand s.cpu.mw (.sr o) opAnd s)

/-- 0x25 `AND dp` (R310). -/
def execAndDp (o : Byte) (s : State) : Host.Outcome State Fault Refusal :=
  .next (readOperand s.cpu.mw (.dp o) opAnd s)

/-- 0x27 `AND [dp]` (R310). -/
def execAndDpindl (o : Byte) (s : State) : Host.Outcome State Fault Refusal :=
  .next (readOperand s.cpu.mw (.dpindl o) opAnd s)

/-- 0x29 `AND #const` (R310). -/
def execAndImm (o : Imm) (s : State) : Host.Outcome State Fault Refusal :=
  .next (readOperand s.cpu.mw (.imm o) opAnd s)

/-- 0x2D `AND addr` (R310). -/
def execAndAbs (o : Word) (s : State) : Host.Outcome State Fault Refusal :=
  .next (readOperand s.cpu.mw (.abs o) opAnd s)

/-- 0x2F `AND long` (R310). -/
def execAndLong (o : Addr) (s : State) : Host.Outcome State Fault Refusal :=
  .next (readOperand s.cpu.mw (.long o) opAnd s)

/-- 0x31 `AND (dp),Y` (R310). -/
def execAndDpindy (o : Byte) (s : State) : Host.Outcome State Fault Refusal :=
  .next (readOperand s.cpu.mw (.dpindy o) opAnd s)

/-- 0x32 `AND (dp)` (R310). -/
def execAndDpind (o : Byte) (s : State) : Host.Outcome State Fault Refusal :=
  .next (readOperand s.cpu.mw (.dpind o) opAnd s)

/-- 0x33 `AND (sr,S),Y` (R310). -/
def execAndSrindy (o : Byte) (s : State) : Host.Outcome State Fault Refusal :=
  .next (readOperand s.cpu.mw (.srindy o) opAnd s)

/-- 0x35 `AND dp,X` (R310). -/
def execAndDpx (o : Byte) (s : State) : Host.Outcome State Fault Refusal :=
  .next (readOperand s.cpu.mw (.dpx o) opAnd s)

/-- 0x37 `AND [dp],Y` (R310). -/
def execAndDpindly (o : Byte) (s : State) : Host.Outcome State Fault Refusal :=
  .next (readOperand s.cpu.mw (.dpindly o) opAnd s)

/-- 0x39 `AND addr,Y` (R310). -/
def execAndAbsy (o : Word) (s : State) : Host.Outcome State Fault Refusal :=
  .next (readOperand s.cpu.mw (.absy o) opAnd s)

/-- 0x3D `AND addr,X` (R310). -/
def execAndAbsx (o : Word) (s : State) : Host.Outcome State Fault Refusal :=
  .next (readOperand s.cpu.mw (.absx o) opAnd s)

/-- 0x3F `AND long,X` (R310). -/
def execAndLongx (o : Addr) (s : State) : Host.Outcome State Fault Refusal :=
  .next (readOperand s.cpu.mw (.longx o) opAnd s)

/-- 0x01 `ORA (dp,X)` (R311). -/
def execOraDpxind (o : Byte) (s : State) : Host.Outcome State Fault Refusal :=
  .next (readOperand s.cpu.mw (.dpxind o) opOra s)

/-- 0x03 `ORA sr,S` (R311). -/
def execOraSr (o : Byte) (s : State) : Host.Outcome State Fault Refusal :=
  .next (readOperand s.cpu.mw (.sr o) opOra s)

/-- 0x05 `ORA dp` (R311). -/
def execOraDp (o : Byte) (s : State) : Host.Outcome State Fault Refusal :=
  .next (readOperand s.cpu.mw (.dp o) opOra s)

/-- 0x07 `ORA [dp]` (R311). -/
def execOraDpindl (o : Byte) (s : State) : Host.Outcome State Fault Refusal :=
  .next (readOperand s.cpu.mw (.dpindl o) opOra s)

/-- 0x09 `ORA #const` (R311). -/
def execOraImm (o : Imm) (s : State) : Host.Outcome State Fault Refusal :=
  .next (readOperand s.cpu.mw (.imm o) opOra s)

/-- 0x0D `ORA addr` (R311). -/
def execOraAbs (o : Word) (s : State) : Host.Outcome State Fault Refusal :=
  .next (readOperand s.cpu.mw (.abs o) opOra s)

/-- 0x0F `ORA long` (R311). -/
def execOraLong (o : Addr) (s : State) : Host.Outcome State Fault Refusal :=
  .next (readOperand s.cpu.mw (.long o) opOra s)

/-- 0x11 `ORA (dp),Y` (R311). -/
def execOraDpindy (o : Byte) (s : State) : Host.Outcome State Fault Refusal :=
  .next (readOperand s.cpu.mw (.dpindy o) opOra s)

/-- 0x12 `ORA (dp)` (R311). -/
def execOraDpind (o : Byte) (s : State) : Host.Outcome State Fault Refusal :=
  .next (readOperand s.cpu.mw (.dpind o) opOra s)

/-- 0x13 `ORA (sr,S),Y` (R311). -/
def execOraSrindy (o : Byte) (s : State) : Host.Outcome State Fault Refusal :=
  .next (readOperand s.cpu.mw (.srindy o) opOra s)

/-- 0x15 `ORA dp,X` (R311). -/
def execOraDpx (o : Byte) (s : State) : Host.Outcome State Fault Refusal :=
  .next (readOperand s.cpu.mw (.dpx o) opOra s)

/-- 0x17 `ORA [dp],Y` (R311). -/
def execOraDpindly (o : Byte) (s : State) : Host.Outcome State Fault Refusal :=
  .next (readOperand s.cpu.mw (.dpindly o) opOra s)

/-- 0x19 `ORA addr,Y` (R311). -/
def execOraAbsy (o : Word) (s : State) : Host.Outcome State Fault Refusal :=
  .next (readOperand s.cpu.mw (.absy o) opOra s)

/-- 0x1D `ORA addr,X` (R311). -/
def execOraAbsx (o : Word) (s : State) : Host.Outcome State Fault Refusal :=
  .next (readOperand s.cpu.mw (.absx o) opOra s)

/-- 0x1F `ORA long,X` (R311). -/
def execOraLongx (o : Addr) (s : State) : Host.Outcome State Fault Refusal :=
  .next (readOperand s.cpu.mw (.longx o) opOra s)

/-- 0x41 `EOR (dp,X)` (R312). -/
def execEorDpxind (o : Byte) (s : State) : Host.Outcome State Fault Refusal :=
  .next (readOperand s.cpu.mw (.dpxind o) opEor s)

/-- 0x43 `EOR sr,S` (R312). -/
def execEorSr (o : Byte) (s : State) : Host.Outcome State Fault Refusal :=
  .next (readOperand s.cpu.mw (.sr o) opEor s)

/-- 0x45 `EOR dp` (R312). -/
def execEorDp (o : Byte) (s : State) : Host.Outcome State Fault Refusal :=
  .next (readOperand s.cpu.mw (.dp o) opEor s)

/-- 0x47 `EOR [dp]` (R312). -/
def execEorDpindl (o : Byte) (s : State) : Host.Outcome State Fault Refusal :=
  .next (readOperand s.cpu.mw (.dpindl o) opEor s)

/-- 0x49 `EOR #const` (R312). -/
def execEorImm (o : Imm) (s : State) : Host.Outcome State Fault Refusal :=
  .next (readOperand s.cpu.mw (.imm o) opEor s)

/-- 0x4D `EOR addr` (R312). -/
def execEorAbs (o : Word) (s : State) : Host.Outcome State Fault Refusal :=
  .next (readOperand s.cpu.mw (.abs o) opEor s)

/-- 0x4F `EOR long` (R312). -/
def execEorLong (o : Addr) (s : State) : Host.Outcome State Fault Refusal :=
  .next (readOperand s.cpu.mw (.long o) opEor s)

/-- 0x51 `EOR (dp),Y` (R312). -/
def execEorDpindy (o : Byte) (s : State) : Host.Outcome State Fault Refusal :=
  .next (readOperand s.cpu.mw (.dpindy o) opEor s)

/-- 0x52 `EOR (dp)` (R312). -/
def execEorDpind (o : Byte) (s : State) : Host.Outcome State Fault Refusal :=
  .next (readOperand s.cpu.mw (.dpind o) opEor s)

/-- 0x53 `EOR (sr,S),Y` (R312). -/
def execEorSrindy (o : Byte) (s : State) : Host.Outcome State Fault Refusal :=
  .next (readOperand s.cpu.mw (.srindy o) opEor s)

/-- 0x55 `EOR dp,X` (R312). -/
def execEorDpx (o : Byte) (s : State) : Host.Outcome State Fault Refusal :=
  .next (readOperand s.cpu.mw (.dpx o) opEor s)

/-- 0x57 `EOR [dp],Y` (R312). -/
def execEorDpindly (o : Byte) (s : State) : Host.Outcome State Fault Refusal :=
  .next (readOperand s.cpu.mw (.dpindly o) opEor s)

/-- 0x59 `EOR addr,Y` (R312). -/
def execEorAbsy (o : Word) (s : State) : Host.Outcome State Fault Refusal :=
  .next (readOperand s.cpu.mw (.absy o) opEor s)

/-- 0x5D `EOR addr,X` (R312). -/
def execEorAbsx (o : Word) (s : State) : Host.Outcome State Fault Refusal :=
  .next (readOperand s.cpu.mw (.absx o) opEor s)

/-- 0x5F `EOR long,X` (R312). -/
def execEorLongx (o : Addr) (s : State) : Host.Outcome State Fault Refusal :=
  .next (readOperand s.cpu.mw (.longx o) opEor s)

/-- 0x24 `BIT dp` (R313). -/
def execBitDp (o : Byte) (s : State) : Host.Outcome State Fault Refusal :=
  .next (readOperand s.cpu.mw (.dp o) opBit s)

/-- 0x2C `BIT addr` (R313). -/
def execBitAbs (o : Word) (s : State) : Host.Outcome State Fault Refusal :=
  .next (readOperand s.cpu.mw (.abs o) opBit s)

/-- 0x34 `BIT dp,X` (R313). -/
def execBitDpx (o : Byte) (s : State) : Host.Outcome State Fault Refusal :=
  .next (readOperand s.cpu.mw (.dpx o) opBit s)

/-- 0x3C `BIT addr,X` (R313). -/
def execBitAbsx (o : Word) (s : State) : Host.Outcome State Fault Refusal :=
  .next (readOperand s.cpu.mw (.absx o) opBit s)

/-- 0x89 `BIT #const` (R313). -/
def execBitImm (o : Imm) (s : State) : Host.Outcome State Fault Refusal :=
  .next (readOperand s.cpu.mw (.imm o) opBitImm s)

/-- 0x06 `ASL dp` (R320). -/
def execAslDp (o : Byte) (s : State) : Host.Outcome State Fault Refusal :=
  .next (modifyOperand (.dp o) rmwAsl s)

/-- 0x0A `ASL A` (R320). -/
def execAslAcc (s : State) : Host.Outcome State Fault Refusal :=
  .next (modifyAccumulator rmwAsl s)

/-- 0x0E `ASL addr` (R320). -/
def execAslAbs (o : Word) (s : State) : Host.Outcome State Fault Refusal :=
  .next (modifyOperand (.abs o) rmwAsl s)

/-- 0x16 `ASL dp,X` (R320). -/
def execAslDpx (o : Byte) (s : State) : Host.Outcome State Fault Refusal :=
  .next (modifyOperand (.dpx o) rmwAsl s)

/-- 0x1E `ASL addr,X` (R320). -/
def execAslAbsx (o : Word) (s : State) : Host.Outcome State Fault Refusal :=
  .next (modifyOperand (.absx o) rmwAsl s)

/-- 0x46 `LSR dp` (R321). -/
def execLsrDp (o : Byte) (s : State) : Host.Outcome State Fault Refusal :=
  .next (modifyOperand (.dp o) rmwLsr s)

/-- 0x4A `LSR A` (R321). -/
def execLsrAcc (s : State) : Host.Outcome State Fault Refusal :=
  .next (modifyAccumulator rmwLsr s)

/-- 0x4E `LSR addr` (R321). -/
def execLsrAbs (o : Word) (s : State) : Host.Outcome State Fault Refusal :=
  .next (modifyOperand (.abs o) rmwLsr s)

/-- 0x56 `LSR dp,X` (R321). -/
def execLsrDpx (o : Byte) (s : State) : Host.Outcome State Fault Refusal :=
  .next (modifyOperand (.dpx o) rmwLsr s)

/-- 0x5E `LSR addr,X` (R321). -/
def execLsrAbsx (o : Word) (s : State) : Host.Outcome State Fault Refusal :=
  .next (modifyOperand (.absx o) rmwLsr s)

/-- 0x26 `ROL dp` (R322). -/
def execRolDp (o : Byte) (s : State) : Host.Outcome State Fault Refusal :=
  .next (modifyOperand (.dp o) rmwRol s)

/-- 0x2A `ROL A` (R322). -/
def execRolAcc (s : State) : Host.Outcome State Fault Refusal :=
  .next (modifyAccumulator rmwRol s)

/-- 0x2E `ROL addr` (R322). -/
def execRolAbs (o : Word) (s : State) : Host.Outcome State Fault Refusal :=
  .next (modifyOperand (.abs o) rmwRol s)

/-- 0x36 `ROL dp,X` (R322). -/
def execRolDpx (o : Byte) (s : State) : Host.Outcome State Fault Refusal :=
  .next (modifyOperand (.dpx o) rmwRol s)

/-- 0x3E `ROL addr,X` (R322). -/
def execRolAbsx (o : Word) (s : State) : Host.Outcome State Fault Refusal :=
  .next (modifyOperand (.absx o) rmwRol s)

/-- 0x66 `ROR dp` (R323). -/
def execRorDp (o : Byte) (s : State) : Host.Outcome State Fault Refusal :=
  .next (modifyOperand (.dp o) rmwRor s)

/-- 0x6A `ROR A` (R323). -/
def execRorAcc (s : State) : Host.Outcome State Fault Refusal :=
  .next (modifyAccumulator rmwRor s)

/-- 0x6E `ROR addr` (R323). -/
def execRorAbs (o : Word) (s : State) : Host.Outcome State Fault Refusal :=
  .next (modifyOperand (.abs o) rmwRor s)

/-- 0x76 `ROR dp,X` (R323). -/
def execRorDpx (o : Byte) (s : State) : Host.Outcome State Fault Refusal :=
  .next (modifyOperand (.dpx o) rmwRor s)

/-- 0x7E `ROR addr,X` (R323). -/
def execRorAbsx (o : Word) (s : State) : Host.Outcome State Fault Refusal :=
  .next (modifyOperand (.absx o) rmwRor s)

/-- 0x04 `TSB dp` (R324). -/
def execTsbDp (o : Byte) (s : State) : Host.Outcome State Fault Refusal :=
  .next (modifyOperand (.dp o) rmwTsb s)

/-- 0x0C `TSB addr` (R324). -/
def execTsbAbs (o : Word) (s : State) : Host.Outcome State Fault Refusal :=
  .next (modifyOperand (.abs o) rmwTsb s)

/-- 0x14 `TRB dp` (R325). -/
def execTrbDp (o : Byte) (s : State) : Host.Outcome State Fault Refusal :=
  .next (modifyOperand (.dp o) rmwTrb s)

/-- 0x1C `TRB addr` (R325). -/
def execTrbAbs (o : Word) (s : State) : Host.Outcome State Fault Refusal :=
  .next (modifyOperand (.abs o) rmwTrb s)

end Sys2Proof.Machine
end

