-- ==== Sys2Proof/Machine/Stack.lean ====
section
/-! DEFINITION. Stack instructions and block moves (40_load_store_transfer.md R250-R269). -/

namespace Sys2Proof.Machine

/-- A push of width w after one internal cycle (R250-R252). -/
def pushReg (w : Width) (v : Word) (s : State) : State :=
  match w with
  | .w8 => push8 (lo v) (idle s)
  | .w16 => push16 v (idle s)

/-- A pull of width w after two internal cycles (R257-R259). -/
def pullReg (w : Width) (s : State) : Word × State :=
  match w with
  | .w8 =>
    let (b, s) := pull8 (idles 2 s)
    (zext b, s)
  | .w16 => pull16 (idles 2 s)

/-- PLA's, PLX's and PLY's shape: the pulled value goes to registers by op. -/
def pullInto (w : Width) (op : Width → Word → Cpu → Cpu) (s : State) : State :=
  let (v, s) := pullReg w s
  s.mapCpu (op w v)

/-- PLA (R257). -/
def opPla (w : Width) (v : Word) (c : Cpu) : Cpu := { c.setA w v with p := setNZ w v c.p }
/-- PLX (R258). -/
def opPlx (w : Width) (v : Word) (c : Cpu) : Cpu := { c.setX v with p := setNZ w v c.p }
/-- PLY (R259). -/
def opPly (w : Width) (v : Word) (c : Cpu) : Cpu := { c.setY v with p := setNZ w v c.p }

/-- PLP: P from the pulled byte, after the last cycle (R260, R401). -/
def pullStatus (s : State) : State :=
  let (b, s) := pull8 (idles 2 s)
  s.mapCpu (fun c => c.writeP (Status.ofByte b))

/-- PLB (R261). -/
def pullBank (s : State) : State :=
  let (b, s) := pull8 (idles 2 s)
  s.mapCpu (fun c => { c with db := b, p := setNZ .w8 (zext b) c.p })

/-- PLD: 16 bits, with the full S (R262, R34). -/
def pullDirect (s : State) : State :=
  let (v, s) := pull16Full (idles 2 s)
  forceS (s.mapCpu (fun c => { c with d := v, p := setNZ .w16 v c.p }))

/-- A 16-bit push with the full S (R34): PHD, PEA, PEI and PER end so. -/
def pushFull (v : Word) (s : State) : State := forceS (push16Full v s)

/-- PEI: the pointer is read in the direct page, low byte first (R264). -/
def pushIndirect (o : Byte) (s : State) : State :=
  let s := dCycle s
  let (v, s) := readPointer16 (s.cpu.dpa (zext o)) s
  pushFull v s

/-- The registers after one byte of a block move: the count falls, and the instruction repeats until it has wrapped
(R268). X and Y move by `step` at width xw. -/
def Cpu.moved (c : Cpu) (step : Word) : Cpu :=
  let c := { c with x := trunc c.xw (c.x + step), y := trunc c.xw (c.y + step), a := c.a - 1 }
  if c.a = 0xFFFF then c else { c with pc := c.pc - 3 }

/-- One byte of MVN (step 1) or MVP (step -1) (R268, R269). -/
def blockMove (dst src : Byte) (step : Word) (s : State) : State :=
  let s := s.mapCpu (fun c => { c with db := dst })
  let (v, s) := read8 (long src s.cpu.x) s
  let s := write8 (long dst s.cpu.y) v s
  (idles 2 s).mapCpu (fun c => c.moved step)

/-- 0x48 `PHA` (R250). -/
def execPha (s : State) : Host.Outcome State Fault Refusal :=
  .next (pushReg s.cpu.mw s.cpu.a s)

/-- 0xDA `PHX` (R251). -/
def execPhx (s : State) : Host.Outcome State Fault Refusal :=
  .next (pushReg s.cpu.xw s.cpu.x s)

/-- 0x5A `PHY` (R252). -/
def execPhy (s : State) : Host.Outcome State Fault Refusal :=
  .next (pushReg s.cpu.xw s.cpu.y s)

/-- 0x08 `PHP` (R253). -/
def execPhp (s : State) : Host.Outcome State Fault Refusal :=
  .next (push8 s.cpu.p.toByte (idle s))

/-- 0x8B `PHB` (R254). -/
def execPhb (s : State) : Host.Outcome State Fault Refusal :=
  .next (push8 s.cpu.db (idle s))

/-- 0x0B `PHD` (R255). -/
def execPhd (s : State) : Host.Outcome State Fault Refusal :=
  .next (pushFull s.cpu.d (idle s))

/-- 0x4B `PHK` (R256). -/
def execPhk (s : State) : Host.Outcome State Fault Refusal :=
  .next (push8 s.cpu.pb (idle s))

/-- 0x68 `PLA` (R257). -/
def execPla (s : State) : Host.Outcome State Fault Refusal :=
  .next (pullInto s.cpu.mw opPla s)

/-- 0xFA `PLX` (R258). -/
def execPlx (s : State) : Host.Outcome State Fault Refusal :=
  .next (pullInto s.cpu.xw opPlx s)

/-- 0x7A `PLY` (R259). -/
def execPly (s : State) : Host.Outcome State Fault Refusal :=
  .next (pullInto s.cpu.xw opPly s)

/-- 0x28 `PLP` (R260). -/
def execPlp (s : State) : Host.Outcome State Fault Refusal :=
  .next (pullStatus s)

/-- 0xAB `PLB` (R261). -/
def execPlb (s : State) : Host.Outcome State Fault Refusal :=
  .next (pullBank s)

/-- 0x2B `PLD` (R262). -/
def execPld (s : State) : Host.Outcome State Fault Refusal :=
  .next (pullDirect s)

/-- 0xF4 `PEA addr` (R263). -/
def execPea (o : Word) (s : State) : Host.Outcome State Fault Refusal :=
  .next (pushFull o s)

/-- 0xD4 `PEI (dp)` (R264). -/
def execPei (o : Byte) (s : State) : Host.Outcome State Fault Refusal :=
  .next (pushIndirect o s)

/-- 0x62 `PER label` (R265). PC is PC_next here. -/
def execPer (o : Word) (s : State) : Host.Outcome State Fault Refusal :=
  .next (pushFull (s.cpu.pc + o) (idle s))

/-- 0x54 `MVN srcbank,dstbank` (R268). -/
def execMvn (dst src : Byte) (s : State) : Host.Outcome State Fault Refusal :=
  .next (blockMove dst src 1 s)

/-- 0x44 `MVP srcbank,dstbank` (R269). -/
def execMvp (dst src : Byte) (s : State) : Host.Outcome State Fault Refusal :=
  .next (blockMove dst src (-1) s)

end Sys2Proof.Machine
end

