-- ==== Sys2Proof/Machine/System.lean ====
section
/-! DEFINITION. Flag, mode and processor-control instructions (43_system_flags.md R400-R425). -/

namespace Sys2Proof.Machine

/-- CLC (R405). -/
def opClc (c : Cpu) : Cpu := { c with p := { c.p with c := false } }
/-- SEC (R406). -/
def opSec (c : Cpu) : Cpu := { c with p := { c.p with c := true } }
/-- CLI (R407). -/
def opCli (c : Cpu) : Cpu := { c with p := { c.p with i := false } }
/-- SEI (R408). -/
def opSei (c : Cpu) : Cpu := { c with p := { c.p with i := true } }
/-- CLD (R409). -/
def opCld (c : Cpu) : Cpu := { c with p := { c.p with d := false } }
/-- SED (R410). -/
def opSed (c : Cpu) : Cpu := { c with p := { c.p with d := true } }
/-- CLV (R411). -/
def opClv (c : Cpu) : Cpu := { c with p := { c.p with v := false } }
/-- REP (R412). -/
def opRep (m : Byte) (c : Cpu) : Cpu := c.writeP (Status.ofByte (c.p.toByte &&& ~~~m))
/-- SEP (R413). -/
def opSep (m : Byte) (c : Cpu) : Cpu := c.writeP (Status.ofByte (c.p.toByte ||| m))
/-- XCE: E and C change places; entering emulation applies R32, R33 and R34 at once (R37, R414). -/
def opXce (c : Cpu) : Cpu :=
  let c' := { c with e := c.p.c, p := { c.p with c := c.e } }
  if c'.e then (c'.writeP c'.p).setS c'.s else c'
/-- WAI (R424). -/
def opWai (c : Cpu) : Cpu := { c with run := .wai }
/-- STP (R425). -/
def opStp (c : Cpu) : Cpu := { c with run := .stp }

/-- 0x18 `CLC` (R405). -/
def execClc (s : State) : Host.Outcome State Fault Refusal :=
  .next (implied 1 opClc s)

/-- 0x38 `SEC` (R406). -/
def execSec (s : State) : Host.Outcome State Fault Refusal :=
  .next (implied 1 opSec s)

/-- 0x58 `CLI` (R407). -/
def execCli (s : State) : Host.Outcome State Fault Refusal :=
  .next (implied 1 opCli s)

/-- 0x78 `SEI` (R408). -/
def execSei (s : State) : Host.Outcome State Fault Refusal :=
  .next (implied 1 opSei s)

/-- 0xD8 `CLD` (R409). -/
def execCld (s : State) : Host.Outcome State Fault Refusal :=
  .next (implied 1 opCld s)

/-- 0xF8 `SED` (R410). -/
def execSed (s : State) : Host.Outcome State Fault Refusal :=
  .next (implied 1 opSed s)

/-- 0xB8 `CLV` (R411). -/
def execClv (s : State) : Host.Outcome State Fault Refusal :=
  .next (implied 1 opClv s)

/-- 0xC2 `REP #const` (R412). -/
def execRep (o : Byte) (s : State) : Host.Outcome State Fault Refusal :=
  .next (implied 1 (opRep o) s)

/-- 0xE2 `SEP #const` (R413). -/
def execSep (o : Byte) (s : State) : Host.Outcome State Fault Refusal :=
  .next (implied 1 (opSep o) s)

/-- 0xFB `XCE` (R414). -/
def execXce (s : State) : Host.Outcome State Fault Refusal :=
  .next (implied 1 opXce s)

/-- 0xEA `NOP` (R415). -/
def execNop (s : State) : Host.Outcome State Fault Refusal :=
  .next (idle s)

/-- 0x42 `WDM #sig` (R416). The operand byte has been fetched and is ignored; there is no internal cycle. -/
def execWdm (_o : Byte) (s : State) : Host.Outcome State Fault Refusal :=
  .next (s)

/-- 0xCB `WAI` (R424). -/
def execWai (s : State) : Host.Outcome State Fault Refusal :=
  .next (implied 2 opWai s)

/-- 0xDB `STP` (R425). -/
def execStp (s : State) : Host.Outcome State Fault Refusal :=
  .next (implied 2 opStp s)

end Sys2Proof.Machine
end

