-- ==== Sys2Proof/Machine/Transfer.lean ====
section
/-! DEFINITION. Register transfers (40_load_store_transfer.md R235-R247). -/

namespace Sys2Proof.Machine

/-- TAX (R235). -/
def opTax (c : Cpu) : Cpu := { c.setX c.a with p := setNZ c.xw c.a c.p }
/-- TAY (R236). -/
def opTay (c : Cpu) : Cpu := { c.setY c.a with p := setNZ c.xw c.a c.p }
/-- TXA (R237). -/
def opTxa (c : Cpu) : Cpu := { c.setA c.mw c.x with p := setNZ c.mw c.x c.p }
/-- TYA (R238). -/
def opTya (c : Cpu) : Cpu := { c.setA c.mw c.y with p := setNZ c.mw c.y c.p }
/-- TXY (R239). -/
def opTxy (c : Cpu) : Cpu := { c.setY c.x with p := setNZ c.xw c.x c.p }
/-- TYX (R240). -/
def opTyx (c : Cpu) : Cpu := { c.setX c.y with p := setNZ c.xw c.y c.p }
/-- TSX (R241). -/
def opTsx (c : Cpu) : Cpu := { c.setX c.s with p := setNZ c.xw c.s c.p }
/-- TXS (R242). -/
def opTxs (c : Cpu) : Cpu := c.setS c.x
/-- TCS (R243). -/
def opTcs (c : Cpu) : Cpu := c.setS c.a
/-- TSC (R244). -/
def opTsc (c : Cpu) : Cpu := { c with a := c.s, p := setNZ .w16 c.s c.p }
/-- TCD (R245). -/
def opTcd (c : Cpu) : Cpu := { c with d := c.a, p := setNZ .w16 c.a c.p }
/-- TDC (R246). -/
def opTdc (c : Cpu) : Cpu := { c with a := c.d, p := setNZ .w16 c.d c.p }
/-- XBA (R247). -/
def opXba (c : Cpu) : Cpu := { c with a := word (lo c.a) (hi c.a), p := setNZ .w8 (zext (hi c.a)) c.p }

/-- 0xAA `TAX` (R235). -/
def execTax (s : State) : Host.Outcome State Fault Refusal :=
  .next (implied 1 opTax s)

/-- 0xA8 `TAY` (R236). -/
def execTay (s : State) : Host.Outcome State Fault Refusal :=
  .next (implied 1 opTay s)

/-- 0x8A `TXA` (R237). -/
def execTxa (s : State) : Host.Outcome State Fault Refusal :=
  .next (implied 1 opTxa s)

/-- 0x98 `TYA` (R238). -/
def execTya (s : State) : Host.Outcome State Fault Refusal :=
  .next (implied 1 opTya s)

/-- 0x9B `TXY` (R239). -/
def execTxy (s : State) : Host.Outcome State Fault Refusal :=
  .next (implied 1 opTxy s)

/-- 0xBB `TYX` (R240). -/
def execTyx (s : State) : Host.Outcome State Fault Refusal :=
  .next (implied 1 opTyx s)

/-- 0xBA `TSX` (R241). -/
def execTsx (s : State) : Host.Outcome State Fault Refusal :=
  .next (implied 1 opTsx s)

/-- 0x9A `TXS` (R242). -/
def execTxs (s : State) : Host.Outcome State Fault Refusal :=
  .next (implied 1 opTxs s)

/-- 0x1B `TCS` (R243). -/
def execTcs (s : State) : Host.Outcome State Fault Refusal :=
  .next (implied 1 opTcs s)

/-- 0x3B `TSC` (R244). -/
def execTsc (s : State) : Host.Outcome State Fault Refusal :=
  .next (implied 1 opTsc s)

/-- 0x5B `TCD` (R245). -/
def execTcd (s : State) : Host.Outcome State Fault Refusal :=
  .next (implied 1 opTcd s)

/-- 0x7B `TDC` (R246). -/
def execTdc (s : State) : Host.Outcome State Fault Refusal :=
  .next (implied 1 opTdc s)

/-- 0xEB `XBA` (R247). -/
def execXba (s : State) : Host.Outcome State Fault Refusal :=
  .next (implied 2 opXba s)

end Sys2Proof.Machine
end

