-- ==== Sys2Proof/Machine/Dispatch.lean ====
section
/-! DEFINITION. Dispatch: one arm per constructor of Instr. -/

namespace Sys2Proof.Machine

def exec (i : Instr) (s : State) : Host.Outcome State Fault Refusal :=
  match i with
  | .brk o => Sys2Proof.Machine.execBrk o s
  | .oraDpxind o => Sys2Proof.Machine.execOraDpxind o s
  | .cop o => Sys2Proof.Machine.execCop o s
  | .oraSr o => Sys2Proof.Machine.execOraSr o s
  | .tsbDp o => Sys2Proof.Machine.execTsbDp o s
  | .oraDp o => Sys2Proof.Machine.execOraDp o s
  | .aslDp o => Sys2Proof.Machine.execAslDp o s
  | .oraDpindl o => Sys2Proof.Machine.execOraDpindl o s
  | .php => Sys2Proof.Machine.execPhp s
  | .oraImm o => Sys2Proof.Machine.execOraImm o s
  | .aslAcc => Sys2Proof.Machine.execAslAcc s
  | .phd => Sys2Proof.Machine.execPhd s
  | .tsbAbs o => Sys2Proof.Machine.execTsbAbs o s
  | .oraAbs o => Sys2Proof.Machine.execOraAbs o s
  | .aslAbs o => Sys2Proof.Machine.execAslAbs o s
  | .oraLong o => Sys2Proof.Machine.execOraLong o s
  | .bpl o => Sys2Proof.Machine.execBpl o s
  | .oraDpindy o => Sys2Proof.Machine.execOraDpindy o s
  | .oraDpind o => Sys2Proof.Machine.execOraDpind o s
  | .oraSrindy o => Sys2Proof.Machine.execOraSrindy o s
  | .trbDp o => Sys2Proof.Machine.execTrbDp o s
  | .oraDpx o => Sys2Proof.Machine.execOraDpx o s
  | .aslDpx o => Sys2Proof.Machine.execAslDpx o s
  | .oraDpindly o => Sys2Proof.Machine.execOraDpindly o s
  | .clc => Sys2Proof.Machine.execClc s
  | .oraAbsy o => Sys2Proof.Machine.execOraAbsy o s
  | .incAcc => Sys2Proof.Machine.execIncAcc s
  | .tcs => Sys2Proof.Machine.execTcs s
  | .trbAbs o => Sys2Proof.Machine.execTrbAbs o s
  | .oraAbsx o => Sys2Proof.Machine.execOraAbsx o s
  | .aslAbsx o => Sys2Proof.Machine.execAslAbsx o s
  | .oraLongx o => Sys2Proof.Machine.execOraLongx o s
  | .jsrAbs o => Sys2Proof.Machine.execJsrAbs o s
  | .andDpxind o => Sys2Proof.Machine.execAndDpxind o s
  | .jsl o => Sys2Proof.Machine.execJsl o s
  | .andSr o => Sys2Proof.Machine.execAndSr o s
  | .bitDp o => Sys2Proof.Machine.execBitDp o s
  | .andDp o => Sys2Proof.Machine.execAndDp o s
  | .rolDp o => Sys2Proof.Machine.execRolDp o s
  | .andDpindl o => Sys2Proof.Machine.execAndDpindl o s
  | .plp => Sys2Proof.Machine.execPlp s
  | .andImm o => Sys2Proof.Machine.execAndImm o s
  | .rolAcc => Sys2Proof.Machine.execRolAcc s
  | .pld => Sys2Proof.Machine.execPld s
  | .bitAbs o => Sys2Proof.Machine.execBitAbs o s
  | .andAbs o => Sys2Proof.Machine.execAndAbs o s
  | .rolAbs o => Sys2Proof.Machine.execRolAbs o s
  | .andLong o => Sys2Proof.Machine.execAndLong o s
  | .bmi o => Sys2Proof.Machine.execBmi o s
  | .andDpindy o => Sys2Proof.Machine.execAndDpindy o s
  | .andDpind o => Sys2Proof.Machine.execAndDpind o s
  | .andSrindy o => Sys2Proof.Machine.execAndSrindy o s
  | .bitDpx o => Sys2Proof.Machine.execBitDpx o s
  | .andDpx o => Sys2Proof.Machine.execAndDpx o s
  | .rolDpx o => Sys2Proof.Machine.execRolDpx o s
  | .andDpindly o => Sys2Proof.Machine.execAndDpindly o s
  | .sec => Sys2Proof.Machine.execSec s
  | .andAbsy o => Sys2Proof.Machine.execAndAbsy o s
  | .decAcc => Sys2Proof.Machine.execDecAcc s
  | .tsc => Sys2Proof.Machine.execTsc s
  | .bitAbsx o => Sys2Proof.Machine.execBitAbsx o s
  | .andAbsx o => Sys2Proof.Machine.execAndAbsx o s
  | .rolAbsx o => Sys2Proof.Machine.execRolAbsx o s
  | .andLongx o => Sys2Proof.Machine.execAndLongx o s
  | .rti => Sys2Proof.Machine.execRti s
  | .eorDpxind o => Sys2Proof.Machine.execEorDpxind o s
  | .wdm o => Sys2Proof.Machine.execWdm o s
  | .eorSr o => Sys2Proof.Machine.execEorSr o s
  | .mvp dst src => Sys2Proof.Machine.execMvp dst src s
  | .eorDp o => Sys2Proof.Machine.execEorDp o s
  | .lsrDp o => Sys2Proof.Machine.execLsrDp o s
  | .eorDpindl o => Sys2Proof.Machine.execEorDpindl o s
  | .pha => Sys2Proof.Machine.execPha s
  | .eorImm o => Sys2Proof.Machine.execEorImm o s
  | .lsrAcc => Sys2Proof.Machine.execLsrAcc s
  | .phk => Sys2Proof.Machine.execPhk s
  | .jmpAbs o => Sys2Proof.Machine.execJmpAbs o s
  | .eorAbs o => Sys2Proof.Machine.execEorAbs o s
  | .lsrAbs o => Sys2Proof.Machine.execLsrAbs o s
  | .eorLong o => Sys2Proof.Machine.execEorLong o s
  | .bvc o => Sys2Proof.Machine.execBvc o s
  | .eorDpindy o => Sys2Proof.Machine.execEorDpindy o s
  | .eorDpind o => Sys2Proof.Machine.execEorDpind o s
  | .eorSrindy o => Sys2Proof.Machine.execEorSrindy o s
  | .mvn dst src => Sys2Proof.Machine.execMvn dst src s
  | .eorDpx o => Sys2Proof.Machine.execEorDpx o s
  | .lsrDpx o => Sys2Proof.Machine.execLsrDpx o s
  | .eorDpindly o => Sys2Proof.Machine.execEorDpindly o s
  | .cli => Sys2Proof.Machine.execCli s
  | .eorAbsy o => Sys2Proof.Machine.execEorAbsy o s
  | .phy => Sys2Proof.Machine.execPhy s
  | .tcd => Sys2Proof.Machine.execTcd s
  | .jmlLong o => Sys2Proof.Machine.execJmlLong o s
  | .eorAbsx o => Sys2Proof.Machine.execEorAbsx o s
  | .lsrAbsx o => Sys2Proof.Machine.execLsrAbsx o s
  | .eorLongx o => Sys2Proof.Machine.execEorLongx o s
  | .rts => Sys2Proof.Machine.execRts s
  | .adcDpxind o => Sys2Proof.Machine.execAdcDpxind o s
  | .per o => Sys2Proof.Machine.execPer o s
  | .adcSr o => Sys2Proof.Machine.execAdcSr o s
  | .stzDp o => Sys2Proof.Machine.execStzDp o s
  | .adcDp o => Sys2Proof.Machine.execAdcDp o s
  | .rorDp o => Sys2Proof.Machine.execRorDp o s
  | .adcDpindl o => Sys2Proof.Machine.execAdcDpindl o s
  | .pla => Sys2Proof.Machine.execPla s
  | .adcImm o => Sys2Proof.Machine.execAdcImm o s
  | .rorAcc => Sys2Proof.Machine.execRorAcc s
  | .rtl => Sys2Proof.Machine.execRtl s
  | .jmpAbsind o => Sys2Proof.Machine.execJmpAbsind o s
  | .adcAbs o => Sys2Proof.Machine.execAdcAbs o s
  | .rorAbs o => Sys2Proof.Machine.execRorAbs o s
  | .adcLong o => Sys2Proof.Machine.execAdcLong o s
  | .bvs o => Sys2Proof.Machine.execBvs o s
  | .adcDpindy o => Sys2Proof.Machine.execAdcDpindy o s
  | .adcDpind o => Sys2Proof.Machine.execAdcDpind o s
  | .adcSrindy o => Sys2Proof.Machine.execAdcSrindy o s
  | .stzDpx o => Sys2Proof.Machine.execStzDpx o s
  | .adcDpx o => Sys2Proof.Machine.execAdcDpx o s
  | .rorDpx o => Sys2Proof.Machine.execRorDpx o s
  | .adcDpindly o => Sys2Proof.Machine.execAdcDpindly o s
  | .sei => Sys2Proof.Machine.execSei s
  | .adcAbsy o => Sys2Proof.Machine.execAdcAbsy o s
  | .ply => Sys2Proof.Machine.execPly s
  | .tdc => Sys2Proof.Machine.execTdc s
  | .jmpAbsxind o => Sys2Proof.Machine.execJmpAbsxind o s
  | .adcAbsx o => Sys2Proof.Machine.execAdcAbsx o s
  | .rorAbsx o => Sys2Proof.Machine.execRorAbsx o s
  | .adcLongx o => Sys2Proof.Machine.execAdcLongx o s
  | .bra o => Sys2Proof.Machine.execBra o s
  | .staDpxind o => Sys2Proof.Machine.execStaDpxind o s
  | .brl o => Sys2Proof.Machine.execBrl o s
  | .staSr o => Sys2Proof.Machine.execStaSr o s
  | .styDp o => Sys2Proof.Machine.execStyDp o s
  | .staDp o => Sys2Proof.Machine.execStaDp o s
  | .stxDp o => Sys2Proof.Machine.execStxDp o s
  | .staDpindl o => Sys2Proof.Machine.execStaDpindl o s
  | .dey => Sys2Proof.Machine.execDey s
  | .bitImm o => Sys2Proof.Machine.execBitImm o s
  | .txa => Sys2Proof.Machine.execTxa s
  | .phb => Sys2Proof.Machine.execPhb s
  | .styAbs o => Sys2Proof.Machine.execStyAbs o s
  | .staAbs o => Sys2Proof.Machine.execStaAbs o s
  | .stxAbs o => Sys2Proof.Machine.execStxAbs o s
  | .staLong o => Sys2Proof.Machine.execStaLong o s
  | .bcc o => Sys2Proof.Machine.execBcc o s
  | .staDpindy o => Sys2Proof.Machine.execStaDpindy o s
  | .staDpind o => Sys2Proof.Machine.execStaDpind o s
  | .staSrindy o => Sys2Proof.Machine.execStaSrindy o s
  | .styDpx o => Sys2Proof.Machine.execStyDpx o s
  | .staDpx o => Sys2Proof.Machine.execStaDpx o s
  | .stxDpy o => Sys2Proof.Machine.execStxDpy o s
  | .staDpindly o => Sys2Proof.Machine.execStaDpindly o s
  | .tya => Sys2Proof.Machine.execTya s
  | .staAbsy o => Sys2Proof.Machine.execStaAbsy o s
  | .txs => Sys2Proof.Machine.execTxs s
  | .txy => Sys2Proof.Machine.execTxy s
  | .stzAbs o => Sys2Proof.Machine.execStzAbs o s
  | .staAbsx o => Sys2Proof.Machine.execStaAbsx o s
  | .stzAbsx o => Sys2Proof.Machine.execStzAbsx o s
  | .staLongx o => Sys2Proof.Machine.execStaLongx o s
  | .ldyImm o => Sys2Proof.Machine.execLdyImm o s
  | .ldaDpxind o => Sys2Proof.Machine.execLdaDpxind o s
  | .ldxImm o => Sys2Proof.Machine.execLdxImm o s
  | .ldaSr o => Sys2Proof.Machine.execLdaSr o s
  | .ldyDp o => Sys2Proof.Machine.execLdyDp o s
  | .ldaDp o => Sys2Proof.Machine.execLdaDp o s
  | .ldxDp o => Sys2Proof.Machine.execLdxDp o s
  | .ldaDpindl o => Sys2Proof.Machine.execLdaDpindl o s
  | .tay => Sys2Proof.Machine.execTay s
  | .ldaImm o => Sys2Proof.Machine.execLdaImm o s
  | .tax => Sys2Proof.Machine.execTax s
  | .plb => Sys2Proof.Machine.execPlb s
  | .ldyAbs o => Sys2Proof.Machine.execLdyAbs o s
  | .ldaAbs o => Sys2Proof.Machine.execLdaAbs o s
  | .ldxAbs o => Sys2Proof.Machine.execLdxAbs o s
  | .ldaLong o => Sys2Proof.Machine.execLdaLong o s
  | .bcs o => Sys2Proof.Machine.execBcs o s
  | .ldaDpindy o => Sys2Proof.Machine.execLdaDpindy o s
  | .ldaDpind o => Sys2Proof.Machine.execLdaDpind o s
  | .ldaSrindy o => Sys2Proof.Machine.execLdaSrindy o s
  | .ldyDpx o => Sys2Proof.Machine.execLdyDpx o s
  | .ldaDpx o => Sys2Proof.Machine.execLdaDpx o s
  | .ldxDpy o => Sys2Proof.Machine.execLdxDpy o s
  | .ldaDpindly o => Sys2Proof.Machine.execLdaDpindly o s
  | .clv => Sys2Proof.Machine.execClv s
  | .ldaAbsy o => Sys2Proof.Machine.execLdaAbsy o s
  | .tsx => Sys2Proof.Machine.execTsx s
  | .tyx => Sys2Proof.Machine.execTyx s
  | .ldyAbsx o => Sys2Proof.Machine.execLdyAbsx o s
  | .ldaAbsx o => Sys2Proof.Machine.execLdaAbsx o s
  | .ldxAbsy o => Sys2Proof.Machine.execLdxAbsy o s
  | .ldaLongx o => Sys2Proof.Machine.execLdaLongx o s
  | .cpyImm o => Sys2Proof.Machine.execCpyImm o s
  | .cmpDpxind o => Sys2Proof.Machine.execCmpDpxind o s
  | .rep o => Sys2Proof.Machine.execRep o s
  | .cmpSr o => Sys2Proof.Machine.execCmpSr o s
  | .cpyDp o => Sys2Proof.Machine.execCpyDp o s
  | .cmpDp o => Sys2Proof.Machine.execCmpDp o s
  | .decDp o => Sys2Proof.Machine.execDecDp o s
  | .cmpDpindl o => Sys2Proof.Machine.execCmpDpindl o s
  | .iny => Sys2Proof.Machine.execIny s
  | .cmpImm o => Sys2Proof.Machine.execCmpImm o s
  | .dex => Sys2Proof.Machine.execDex s
  | .wai => Sys2Proof.Machine.execWai s
  | .cpyAbs o => Sys2Proof.Machine.execCpyAbs o s
  | .cmpAbs o => Sys2Proof.Machine.execCmpAbs o s
  | .decAbs o => Sys2Proof.Machine.execDecAbs o s
  | .cmpLong o => Sys2Proof.Machine.execCmpLong o s
  | .bne o => Sys2Proof.Machine.execBne o s
  | .cmpDpindy o => Sys2Proof.Machine.execCmpDpindy o s
  | .cmpDpind o => Sys2Proof.Machine.execCmpDpind o s
  | .cmpSrindy o => Sys2Proof.Machine.execCmpSrindy o s
  | .pei o => Sys2Proof.Machine.execPei o s
  | .cmpDpx o => Sys2Proof.Machine.execCmpDpx o s
  | .decDpx o => Sys2Proof.Machine.execDecDpx o s
  | .cmpDpindly o => Sys2Proof.Machine.execCmpDpindly o s
  | .cld => Sys2Proof.Machine.execCld s
  | .cmpAbsy o => Sys2Proof.Machine.execCmpAbsy o s
  | .phx => Sys2Proof.Machine.execPhx s
  | .stp => Sys2Proof.Machine.execStp s
  | .jmlAbsindl o => Sys2Proof.Machine.execJmlAbsindl o s
  | .cmpAbsx o => Sys2Proof.Machine.execCmpAbsx o s
  | .decAbsx o => Sys2Proof.Machine.execDecAbsx o s
  | .cmpLongx o => Sys2Proof.Machine.execCmpLongx o s
  | .cpxImm o => Sys2Proof.Machine.execCpxImm o s
  | .sbcDpxind o => Sys2Proof.Machine.execSbcDpxind o s
  | .sep o => Sys2Proof.Machine.execSep o s
  | .sbcSr o => Sys2Proof.Machine.execSbcSr o s
  | .cpxDp o => Sys2Proof.Machine.execCpxDp o s
  | .sbcDp o => Sys2Proof.Machine.execSbcDp o s
  | .incDp o => Sys2Proof.Machine.execIncDp o s
  | .sbcDpindl o => Sys2Proof.Machine.execSbcDpindl o s
  | .inx => Sys2Proof.Machine.execInx s
  | .sbcImm o => Sys2Proof.Machine.execSbcImm o s
  | .nop => Sys2Proof.Machine.execNop s
  | .xba => Sys2Proof.Machine.execXba s
  | .cpxAbs o => Sys2Proof.Machine.execCpxAbs o s
  | .sbcAbs o => Sys2Proof.Machine.execSbcAbs o s
  | .incAbs o => Sys2Proof.Machine.execIncAbs o s
  | .sbcLong o => Sys2Proof.Machine.execSbcLong o s
  | .beq o => Sys2Proof.Machine.execBeq o s
  | .sbcDpindy o => Sys2Proof.Machine.execSbcDpindy o s
  | .sbcDpind o => Sys2Proof.Machine.execSbcDpind o s
  | .sbcSrindy o => Sys2Proof.Machine.execSbcSrindy o s
  | .pea o => Sys2Proof.Machine.execPea o s
  | .sbcDpx o => Sys2Proof.Machine.execSbcDpx o s
  | .incDpx o => Sys2Proof.Machine.execIncDpx o s
  | .sbcDpindly o => Sys2Proof.Machine.execSbcDpindly o s
  | .sed => Sys2Proof.Machine.execSed s
  | .sbcAbsy o => Sys2Proof.Machine.execSbcAbsy o s
  | .plx => Sys2Proof.Machine.execPlx s
  | .xce => Sys2Proof.Machine.execXce s
  | .jsrAbsxind o => Sys2Proof.Machine.execJsrAbsxind o s
  | .sbcAbsx o => Sys2Proof.Machine.execSbcAbsx o s
  | .incAbsx o => Sys2Proof.Machine.execIncAbsx o s
  | .sbcLongx o => Sys2Proof.Machine.execSbcLongx o s

end Sys2Proof.Machine
end

