-- ==== Sys2Proof/WellFormed.lean ====
section
/-! DEFINITION. Well-formed instructions: the one constraint between syntax and machine is the width of a
mode-dependent immediate (30_encoding.md R172): an `imm_m` operand has one byte exactly when P.M = 1, an `imm_x` operand
exactly when P.X = 1. Every other operand has a type that admits exactly the encoding's values. -/

namespace Sys2Proof

/-- Whether an immediate is the one-byte kind. -/
def Imm.isByte : Imm → Bool
  | .b8 _ => true
  | .w16 _ => false

/-- The immediate of an `imm_m` opcode of R172, if the instruction is one. -/
def Instr.immM : Instr → Option Imm
  | .oraImm o
  | .andImm o
  | .eorImm o
  | .adcImm o
  | .bitImm o
  | .ldaImm o
  | .cmpImm o
  | .sbcImm o => some o
  | _ => none

/-- The immediate of an `imm_x` opcode of R172, if the instruction is one. -/
def Instr.immX : Instr → Option Imm
  | .ldyImm o
  | .ldxImm o
  | .cpyImm o
  | .cpxImm o => some o
  | _ => none

/-- Well-formed under the mode bits P.M = m8 and P.X = x8 (R172). -/
def Instr.wf (m8 x8 : Bool) (i : Instr) : Bool :=
  (match i.immM with | some v => v.isByte == m8 | none => true) &&
  (match i.immX with | some v => v.isByte == x8 | none => true)

end Sys2Proof
end

