-- ==== Sys2Proof/Decode.lean ====
section
/-! DEFINITION. Decoding and encoding (30_encoding.md R170-R174, R183). `decode` is total on every list of bytes: all 256
opcode values are instructions (R170), so its only rejection is a list shorter than the instruction. The length of the
immediate opcodes depends on P.M and P.X at the fetch (R171, R172), given as `m8` and `x8`. `encode` is written from the
same table in the other direction. -/

namespace Sys2Proof

/-- Why a list of bytes decodes to no instruction. -/
inductive DecodeError where
  /-- there are fewer bytes than the opcode's length (R171) -/
  | truncated
  deriving DecidableEq, Repr

/-- Operand formats by length (R171-R173). -/
inductive Operand where
  | none
  | one
  | two
  | three
  | immM
  | immX
  deriving DecidableEq, Repr

/-- The number of operand bytes of a format under the mode bits (R171, R172). -/
def Operand.len (m8 x8 : Bool) : Operand → Nat
  | .none => 0
  | .one => 1
  | .two => 2
  | .three => 3
  | .immM => if m8 then 1 else 2
  | .immX => if x8 then 1 else 2

/-- The operand format of each opcode, one row of R183's map (high nibble) at a time. -/
def operandRow : Nat → List Operand
  | 0 => [.one, .one, .one, .one, .one, .one, .one, .one, .none, .immM, .none, .none, .two, .two, .two, .three]
  | 1 => [.one, .one, .one, .one, .one, .one, .one, .one, .none, .two, .none, .none, .two, .two, .two, .three]
  | 2 => [.two, .one, .three, .one, .one, .one, .one, .one, .none, .immM, .none, .none, .two, .two, .two, .three]
  | 3 => [.one, .one, .one, .one, .one, .one, .one, .one, .none, .two, .none, .none, .two, .two, .two, .three]
  | 4 => [.none, .one, .one, .one, .two, .one, .one, .one, .none, .immM, .none, .none, .two, .two, .two, .three]
  | 5 => [.one, .one, .one, .one, .two, .one, .one, .one, .none, .two, .none, .none, .three, .two, .two, .three]
  | 6 => [.none, .one, .two, .one, .one, .one, .one, .one, .none, .immM, .none, .none, .two, .two, .two, .three]
  | 7 => [.one, .one, .one, .one, .one, .one, .one, .one, .none, .two, .none, .none, .two, .two, .two, .three]
  | 8 => [.one, .one, .two, .one, .one, .one, .one, .one, .none, .immM, .none, .none, .two, .two, .two, .three]
  | 9 => [.one, .one, .one, .one, .one, .one, .one, .one, .none, .two, .none, .none, .two, .two, .two, .three]
  | 10 => [.immX, .one, .immX, .one, .one, .one, .one, .one, .none, .immM, .none, .none, .two, .two, .two, .three]
  | 11 => [.one, .one, .one, .one, .one, .one, .one, .one, .none, .two, .none, .none, .two, .two, .two, .three]
  | 12 => [.immX, .one, .one, .one, .one, .one, .one, .one, .none, .immM, .none, .none, .two, .two, .two, .three]
  | 13 => [.one, .one, .one, .one, .one, .one, .one, .one, .none, .two, .none, .none, .two, .two, .two, .three]
  | 14 => [.immX, .one, .one, .one, .one, .one, .one, .one, .none, .immM, .none, .none, .two, .two, .two, .three]
  | 15 => [.one, .one, .one, .one, .two, .one, .one, .one, .none, .two, .none, .none, .two, .two, .two, .three]
  | _ => []

/-- The operand format of an opcode (R183). -/
def operandOf (op : Byte) : Operand :=
  (operandRow (op.toNat / 16)).getD (op.toNat % 16) .none

/-- The number of operand bytes of an opcode under the mode bits. -/
def operandLen (m8 x8 : Bool) (op : Byte) : Nat :=
  (operandOf op).len m8 x8

/-- The immediate assembled from its low and high byte (R172, R173); `b8` says the mode bit selects one byte. -/
def immOf (b8 : Bool) (b1 b2 : Byte) : Imm :=
  if b8 then .b8 b1 else .w16 (word b2 b1)

/-- Row 0x00-0x0F of the opcode map (R183), by low nibble. -/
def decodeRow0 (m8 _x8 : Bool) (b1 b2 b3 : Byte) : Nat → Instr
  | 0 => .brk b1
  | 1 => .oraDpxind b1
  | 2 => .cop b1
  | 3 => .oraSr b1
  | 4 => .tsbDp b1
  | 5 => .oraDp b1
  | 6 => .aslDp b1
  | 7 => .oraDpindl b1
  | 8 => .php
  | 9 => .oraImm (immOf m8 b1 b2)
  | 10 => .aslAcc
  | 11 => .phd
  | 12 => .tsbAbs (word b2 b1)
  | 13 => .oraAbs (word b2 b1)
  | 14 => .aslAbs (word b2 b1)
  | _ => .oraLong (long b3 (word b2 b1))

/-- Row 0x10-0x1F of the opcode map (R183), by low nibble. -/
def decodeRow1 (_m8 _x8 : Bool) (b1 b2 b3 : Byte) : Nat → Instr
  | 0 => .bpl b1
  | 1 => .oraDpindy b1
  | 2 => .oraDpind b1
  | 3 => .oraSrindy b1
  | 4 => .trbDp b1
  | 5 => .oraDpx b1
  | 6 => .aslDpx b1
  | 7 => .oraDpindly b1
  | 8 => .clc
  | 9 => .oraAbsy (word b2 b1)
  | 10 => .incAcc
  | 11 => .tcs
  | 12 => .trbAbs (word b2 b1)
  | 13 => .oraAbsx (word b2 b1)
  | 14 => .aslAbsx (word b2 b1)
  | _ => .oraLongx (long b3 (word b2 b1))

/-- Row 0x20-0x2F of the opcode map (R183), by low nibble. -/
def decodeRow2 (m8 _x8 : Bool) (b1 b2 b3 : Byte) : Nat → Instr
  | 0 => .jsrAbs (word b2 b1)
  | 1 => .andDpxind b1
  | 2 => .jsl (long b3 (word b2 b1))
  | 3 => .andSr b1
  | 4 => .bitDp b1
  | 5 => .andDp b1
  | 6 => .rolDp b1
  | 7 => .andDpindl b1
  | 8 => .plp
  | 9 => .andImm (immOf m8 b1 b2)
  | 10 => .rolAcc
  | 11 => .pld
  | 12 => .bitAbs (word b2 b1)
  | 13 => .andAbs (word b2 b1)
  | 14 => .rolAbs (word b2 b1)
  | _ => .andLong (long b3 (word b2 b1))

/-- Row 0x30-0x3F of the opcode map (R183), by low nibble. -/
def decodeRow3 (_m8 _x8 : Bool) (b1 b2 b3 : Byte) : Nat → Instr
  | 0 => .bmi b1
  | 1 => .andDpindy b1
  | 2 => .andDpind b1
  | 3 => .andSrindy b1
  | 4 => .bitDpx b1
  | 5 => .andDpx b1
  | 6 => .rolDpx b1
  | 7 => .andDpindly b1
  | 8 => .sec
  | 9 => .andAbsy (word b2 b1)
  | 10 => .decAcc
  | 11 => .tsc
  | 12 => .bitAbsx (word b2 b1)
  | 13 => .andAbsx (word b2 b1)
  | 14 => .rolAbsx (word b2 b1)
  | _ => .andLongx (long b3 (word b2 b1))

/-- Row 0x40-0x4F of the opcode map (R183), by low nibble. -/
def decodeRow4 (m8 _x8 : Bool) (b1 b2 b3 : Byte) : Nat → Instr
  | 0 => .rti
  | 1 => .eorDpxind b1
  | 2 => .wdm b1
  | 3 => .eorSr b1
  | 4 => .mvp b1 b2
  | 5 => .eorDp b1
  | 6 => .lsrDp b1
  | 7 => .eorDpindl b1
  | 8 => .pha
  | 9 => .eorImm (immOf m8 b1 b2)
  | 10 => .lsrAcc
  | 11 => .phk
  | 12 => .jmpAbs (word b2 b1)
  | 13 => .eorAbs (word b2 b1)
  | 14 => .lsrAbs (word b2 b1)
  | _ => .eorLong (long b3 (word b2 b1))

/-- Row 0x50-0x5F of the opcode map (R183), by low nibble. -/
def decodeRow5 (_m8 _x8 : Bool) (b1 b2 b3 : Byte) : Nat → Instr
  | 0 => .bvc b1
  | 1 => .eorDpindy b1
  | 2 => .eorDpind b1
  | 3 => .eorSrindy b1
  | 4 => .mvn b1 b2
  | 5 => .eorDpx b1
  | 6 => .lsrDpx b1
  | 7 => .eorDpindly b1
  | 8 => .cli
  | 9 => .eorAbsy (word b2 b1)
  | 10 => .phy
  | 11 => .tcd
  | 12 => .jmlLong (long b3 (word b2 b1))
  | 13 => .eorAbsx (word b2 b1)
  | 14 => .lsrAbsx (word b2 b1)
  | _ => .eorLongx (long b3 (word b2 b1))

/-- Row 0x60-0x6F of the opcode map (R183), by low nibble. -/
def decodeRow6 (m8 _x8 : Bool) (b1 b2 b3 : Byte) : Nat → Instr
  | 0 => .rts
  | 1 => .adcDpxind b1
  | 2 => .per (word b2 b1)
  | 3 => .adcSr b1
  | 4 => .stzDp b1
  | 5 => .adcDp b1
  | 6 => .rorDp b1
  | 7 => .adcDpindl b1
  | 8 => .pla
  | 9 => .adcImm (immOf m8 b1 b2)
  | 10 => .rorAcc
  | 11 => .rtl
  | 12 => .jmpAbsind (word b2 b1)
  | 13 => .adcAbs (word b2 b1)
  | 14 => .rorAbs (word b2 b1)
  | _ => .adcLong (long b3 (word b2 b1))

/-- Row 0x70-0x7F of the opcode map (R183), by low nibble. -/
def decodeRow7 (_m8 _x8 : Bool) (b1 b2 b3 : Byte) : Nat → Instr
  | 0 => .bvs b1
  | 1 => .adcDpindy b1
  | 2 => .adcDpind b1
  | 3 => .adcSrindy b1
  | 4 => .stzDpx b1
  | 5 => .adcDpx b1
  | 6 => .rorDpx b1
  | 7 => .adcDpindly b1
  | 8 => .sei
  | 9 => .adcAbsy (word b2 b1)
  | 10 => .ply
  | 11 => .tdc
  | 12 => .jmpAbsxind (word b2 b1)
  | 13 => .adcAbsx (word b2 b1)
  | 14 => .rorAbsx (word b2 b1)
  | _ => .adcLongx (long b3 (word b2 b1))

/-- Row 0x80-0x8F of the opcode map (R183), by low nibble. -/
def decodeRow8 (m8 _x8 : Bool) (b1 b2 b3 : Byte) : Nat → Instr
  | 0 => .bra b1
  | 1 => .staDpxind b1
  | 2 => .brl (word b2 b1)
  | 3 => .staSr b1
  | 4 => .styDp b1
  | 5 => .staDp b1
  | 6 => .stxDp b1
  | 7 => .staDpindl b1
  | 8 => .dey
  | 9 => .bitImm (immOf m8 b1 b2)
  | 10 => .txa
  | 11 => .phb
  | 12 => .styAbs (word b2 b1)
  | 13 => .staAbs (word b2 b1)
  | 14 => .stxAbs (word b2 b1)
  | _ => .staLong (long b3 (word b2 b1))

/-- Row 0x90-0x9F of the opcode map (R183), by low nibble. -/
def decodeRow9 (_m8 _x8 : Bool) (b1 b2 b3 : Byte) : Nat → Instr
  | 0 => .bcc b1
  | 1 => .staDpindy b1
  | 2 => .staDpind b1
  | 3 => .staSrindy b1
  | 4 => .styDpx b1
  | 5 => .staDpx b1
  | 6 => .stxDpy b1
  | 7 => .staDpindly b1
  | 8 => .tya
  | 9 => .staAbsy (word b2 b1)
  | 10 => .txs
  | 11 => .txy
  | 12 => .stzAbs (word b2 b1)
  | 13 => .staAbsx (word b2 b1)
  | 14 => .stzAbsx (word b2 b1)
  | _ => .staLongx (long b3 (word b2 b1))

/-- Row 0xA0-0xAF of the opcode map (R183), by low nibble. -/
def decodeRowA (m8 x8 : Bool) (b1 b2 b3 : Byte) : Nat → Instr
  | 0 => .ldyImm (immOf x8 b1 b2)
  | 1 => .ldaDpxind b1
  | 2 => .ldxImm (immOf x8 b1 b2)
  | 3 => .ldaSr b1
  | 4 => .ldyDp b1
  | 5 => .ldaDp b1
  | 6 => .ldxDp b1
  | 7 => .ldaDpindl b1
  | 8 => .tay
  | 9 => .ldaImm (immOf m8 b1 b2)
  | 10 => .tax
  | 11 => .plb
  | 12 => .ldyAbs (word b2 b1)
  | 13 => .ldaAbs (word b2 b1)
  | 14 => .ldxAbs (word b2 b1)
  | _ => .ldaLong (long b3 (word b2 b1))

/-- Row 0xB0-0xBF of the opcode map (R183), by low nibble. -/
def decodeRowB (_m8 _x8 : Bool) (b1 b2 b3 : Byte) : Nat → Instr
  | 0 => .bcs b1
  | 1 => .ldaDpindy b1
  | 2 => .ldaDpind b1
  | 3 => .ldaSrindy b1
  | 4 => .ldyDpx b1
  | 5 => .ldaDpx b1
  | 6 => .ldxDpy b1
  | 7 => .ldaDpindly b1
  | 8 => .clv
  | 9 => .ldaAbsy (word b2 b1)
  | 10 => .tsx
  | 11 => .tyx
  | 12 => .ldyAbsx (word b2 b1)
  | 13 => .ldaAbsx (word b2 b1)
  | 14 => .ldxAbsy (word b2 b1)
  | _ => .ldaLongx (long b3 (word b2 b1))

/-- Row 0xC0-0xCF of the opcode map (R183), by low nibble. -/
def decodeRowC (m8 x8 : Bool) (b1 b2 b3 : Byte) : Nat → Instr
  | 0 => .cpyImm (immOf x8 b1 b2)
  | 1 => .cmpDpxind b1
  | 2 => .rep b1
  | 3 => .cmpSr b1
  | 4 => .cpyDp b1
  | 5 => .cmpDp b1
  | 6 => .decDp b1
  | 7 => .cmpDpindl b1
  | 8 => .iny
  | 9 => .cmpImm (immOf m8 b1 b2)
  | 10 => .dex
  | 11 => .wai
  | 12 => .cpyAbs (word b2 b1)
  | 13 => .cmpAbs (word b2 b1)
  | 14 => .decAbs (word b2 b1)
  | _ => .cmpLong (long b3 (word b2 b1))

/-- Row 0xD0-0xDF of the opcode map (R183), by low nibble. -/
def decodeRowD (_m8 _x8 : Bool) (b1 b2 b3 : Byte) : Nat → Instr
  | 0 => .bne b1
  | 1 => .cmpDpindy b1
  | 2 => .cmpDpind b1
  | 3 => .cmpSrindy b1
  | 4 => .pei b1
  | 5 => .cmpDpx b1
  | 6 => .decDpx b1
  | 7 => .cmpDpindly b1
  | 8 => .cld
  | 9 => .cmpAbsy (word b2 b1)
  | 10 => .phx
  | 11 => .stp
  | 12 => .jmlAbsindl (word b2 b1)
  | 13 => .cmpAbsx (word b2 b1)
  | 14 => .decAbsx (word b2 b1)
  | _ => .cmpLongx (long b3 (word b2 b1))

/-- Row 0xE0-0xEF of the opcode map (R183), by low nibble. -/
def decodeRowE (m8 x8 : Bool) (b1 b2 b3 : Byte) : Nat → Instr
  | 0 => .cpxImm (immOf x8 b1 b2)
  | 1 => .sbcDpxind b1
  | 2 => .sep b1
  | 3 => .sbcSr b1
  | 4 => .cpxDp b1
  | 5 => .sbcDp b1
  | 6 => .incDp b1
  | 7 => .sbcDpindl b1
  | 8 => .inx
  | 9 => .sbcImm (immOf m8 b1 b2)
  | 10 => .nop
  | 11 => .xba
  | 12 => .cpxAbs (word b2 b1)
  | 13 => .sbcAbs (word b2 b1)
  | 14 => .incAbs (word b2 b1)
  | _ => .sbcLong (long b3 (word b2 b1))

/-- Row 0xF0-0xFF of the opcode map (R183), by low nibble. -/
def decodeRowF (_m8 _x8 : Bool) (b1 b2 b3 : Byte) : Nat → Instr
  | 0 => .beq b1
  | 1 => .sbcDpindy b1
  | 2 => .sbcDpind b1
  | 3 => .sbcSrindy b1
  | 4 => .pea (word b2 b1)
  | 5 => .sbcDpx b1
  | 6 => .incDpx b1
  | 7 => .sbcDpindly b1
  | 8 => .sed
  | 9 => .sbcAbsy (word b2 b1)
  | 10 => .plx
  | 11 => .xce
  | 12 => .jsrAbsxind (word b2 b1)
  | 13 => .sbcAbsx (word b2 b1)
  | 14 => .incAbsx (word b2 b1)
  | _ => .sbcLongx (long b3 (word b2 b1))

/-- The instruction of an opcode with the operand bytes b1, b2, b3 (as many as the opcode has; R170-R173). -/
def decodeOp (m8 x8 : Bool) (op b1 b2 b3 : Byte) : Instr :=
  match op.toNat / 16 with
  | 0 => decodeRow0 m8 x8 b1 b2 b3 (op.toNat % 16)
  | 1 => decodeRow1 m8 x8 b1 b2 b3 (op.toNat % 16)
  | 2 => decodeRow2 m8 x8 b1 b2 b3 (op.toNat % 16)
  | 3 => decodeRow3 m8 x8 b1 b2 b3 (op.toNat % 16)
  | 4 => decodeRow4 m8 x8 b1 b2 b3 (op.toNat % 16)
  | 5 => decodeRow5 m8 x8 b1 b2 b3 (op.toNat % 16)
  | 6 => decodeRow6 m8 x8 b1 b2 b3 (op.toNat % 16)
  | 7 => decodeRow7 m8 x8 b1 b2 b3 (op.toNat % 16)
  | 8 => decodeRow8 m8 x8 b1 b2 b3 (op.toNat % 16)
  | 9 => decodeRow9 m8 x8 b1 b2 b3 (op.toNat % 16)
  | 10 => decodeRowA m8 x8 b1 b2 b3 (op.toNat % 16)
  | 11 => decodeRowB m8 x8 b1 b2 b3 (op.toNat % 16)
  | 12 => decodeRowC m8 x8 b1 b2 b3 (op.toNat % 16)
  | 13 => decodeRowD m8 x8 b1 b2 b3 (op.toNat % 16)
  | 14 => decodeRowE m8 x8 b1 b2 b3 (op.toNat % 16)
  | _ => decodeRowF m8 x8 b1 b2 b3 (op.toNat % 16)

/-- Decode the first instruction of a list of bytes under the mode bits; answers it with the bytes after it. -/
def decode (m8 x8 : Bool) : List Byte → Except DecodeError (Instr × List Byte)
  | [] => .error .truncated
  | op :: rest =>
    if rest.length < operandLen m8 x8 op then .error .truncated
    else .ok (decodeOp m8 x8 op (rest.getD 0 0) (rest.getD 1 0) (rest.getD 2 0), rest.drop (operandLen m8 x8 op))

/-- The bytes of an immediate, low byte first (R173). -/
def Imm.bytes : Imm → List Byte
  | .b8 v => [v]
  | .w16 v => [lo v, hi v]

/-- The bytes of a 16-bit operand, low byte first (R173). -/
def wordBytes (v : Word) : List Byte := [lo v, hi v]

/-- The bytes of a long operand, low byte first, bank last (R173). -/
def longBytes (a : Addr) : List Byte := [lo (offOf a), hi (offOf a), bankOf a]

/-- The bytes of an instruction in memory order (R171-R173, R183). -/
def encode : Instr → List Byte
  | .brk o => [0x00, o]
  | .oraDpxind o => [0x01, o]
  | .cop o => [0x02, o]
  | .oraSr o => [0x03, o]
  | .tsbDp o => [0x04, o]
  | .oraDp o => [0x05, o]
  | .aslDp o => [0x06, o]
  | .oraDpindl o => [0x07, o]
  | .php => [0x08]
  | .oraImm o => 0x09 :: o.bytes
  | .aslAcc => [0x0A]
  | .phd => [0x0B]
  | .tsbAbs o => 0x0C :: wordBytes o
  | .oraAbs o => 0x0D :: wordBytes o
  | .aslAbs o => 0x0E :: wordBytes o
  | .oraLong o => 0x0F :: longBytes o
  | .bpl o => [0x10, o]
  | .oraDpindy o => [0x11, o]
  | .oraDpind o => [0x12, o]
  | .oraSrindy o => [0x13, o]
  | .trbDp o => [0x14, o]
  | .oraDpx o => [0x15, o]
  | .aslDpx o => [0x16, o]
  | .oraDpindly o => [0x17, o]
  | .clc => [0x18]
  | .oraAbsy o => 0x19 :: wordBytes o
  | .incAcc => [0x1A]
  | .tcs => [0x1B]
  | .trbAbs o => 0x1C :: wordBytes o
  | .oraAbsx o => 0x1D :: wordBytes o
  | .aslAbsx o => 0x1E :: wordBytes o
  | .oraLongx o => 0x1F :: longBytes o
  | .jsrAbs o => 0x20 :: wordBytes o
  | .andDpxind o => [0x21, o]
  | .jsl o => 0x22 :: longBytes o
  | .andSr o => [0x23, o]
  | .bitDp o => [0x24, o]
  | .andDp o => [0x25, o]
  | .rolDp o => [0x26, o]
  | .andDpindl o => [0x27, o]
  | .plp => [0x28]
  | .andImm o => 0x29 :: o.bytes
  | .rolAcc => [0x2A]
  | .pld => [0x2B]
  | .bitAbs o => 0x2C :: wordBytes o
  | .andAbs o => 0x2D :: wordBytes o
  | .rolAbs o => 0x2E :: wordBytes o
  | .andLong o => 0x2F :: longBytes o
  | .bmi o => [0x30, o]
  | .andDpindy o => [0x31, o]
  | .andDpind o => [0x32, o]
  | .andSrindy o => [0x33, o]
  | .bitDpx o => [0x34, o]
  | .andDpx o => [0x35, o]
  | .rolDpx o => [0x36, o]
  | .andDpindly o => [0x37, o]
  | .sec => [0x38]
  | .andAbsy o => 0x39 :: wordBytes o
  | .decAcc => [0x3A]
  | .tsc => [0x3B]
  | .bitAbsx o => 0x3C :: wordBytes o
  | .andAbsx o => 0x3D :: wordBytes o
  | .rolAbsx o => 0x3E :: wordBytes o
  | .andLongx o => 0x3F :: longBytes o
  | .rti => [0x40]
  | .eorDpxind o => [0x41, o]
  | .wdm o => [0x42, o]
  | .eorSr o => [0x43, o]
  | .mvp dst src => [0x44, dst, src]
  | .eorDp o => [0x45, o]
  | .lsrDp o => [0x46, o]
  | .eorDpindl o => [0x47, o]
  | .pha => [0x48]
  | .eorImm o => 0x49 :: o.bytes
  | .lsrAcc => [0x4A]
  | .phk => [0x4B]
  | .jmpAbs o => 0x4C :: wordBytes o
  | .eorAbs o => 0x4D :: wordBytes o
  | .lsrAbs o => 0x4E :: wordBytes o
  | .eorLong o => 0x4F :: longBytes o
  | .bvc o => [0x50, o]
  | .eorDpindy o => [0x51, o]
  | .eorDpind o => [0x52, o]
  | .eorSrindy o => [0x53, o]
  | .mvn dst src => [0x54, dst, src]
  | .eorDpx o => [0x55, o]
  | .lsrDpx o => [0x56, o]
  | .eorDpindly o => [0x57, o]
  | .cli => [0x58]
  | .eorAbsy o => 0x59 :: wordBytes o
  | .phy => [0x5A]
  | .tcd => [0x5B]
  | .jmlLong o => 0x5C :: longBytes o
  | .eorAbsx o => 0x5D :: wordBytes o
  | .lsrAbsx o => 0x5E :: wordBytes o
  | .eorLongx o => 0x5F :: longBytes o
  | .rts => [0x60]
  | .adcDpxind o => [0x61, o]
  | .per o => 0x62 :: wordBytes o
  | .adcSr o => [0x63, o]
  | .stzDp o => [0x64, o]
  | .adcDp o => [0x65, o]
  | .rorDp o => [0x66, o]
  | .adcDpindl o => [0x67, o]
  | .pla => [0x68]
  | .adcImm o => 0x69 :: o.bytes
  | .rorAcc => [0x6A]
  | .rtl => [0x6B]
  | .jmpAbsind o => 0x6C :: wordBytes o
  | .adcAbs o => 0x6D :: wordBytes o
  | .rorAbs o => 0x6E :: wordBytes o
  | .adcLong o => 0x6F :: longBytes o
  | .bvs o => [0x70, o]
  | .adcDpindy o => [0x71, o]
  | .adcDpind o => [0x72, o]
  | .adcSrindy o => [0x73, o]
  | .stzDpx o => [0x74, o]
  | .adcDpx o => [0x75, o]
  | .rorDpx o => [0x76, o]
  | .adcDpindly o => [0x77, o]
  | .sei => [0x78]
  | .adcAbsy o => 0x79 :: wordBytes o
  | .ply => [0x7A]
  | .tdc => [0x7B]
  | .jmpAbsxind o => 0x7C :: wordBytes o
  | .adcAbsx o => 0x7D :: wordBytes o
  | .rorAbsx o => 0x7E :: wordBytes o
  | .adcLongx o => 0x7F :: longBytes o
  | .bra o => [0x80, o]
  | .staDpxind o => [0x81, o]
  | .brl o => 0x82 :: wordBytes o
  | .staSr o => [0x83, o]
  | .styDp o => [0x84, o]
  | .staDp o => [0x85, o]
  | .stxDp o => [0x86, o]
  | .staDpindl o => [0x87, o]
  | .dey => [0x88]
  | .bitImm o => 0x89 :: o.bytes
  | .txa => [0x8A]
  | .phb => [0x8B]
  | .styAbs o => 0x8C :: wordBytes o
  | .staAbs o => 0x8D :: wordBytes o
  | .stxAbs o => 0x8E :: wordBytes o
  | .staLong o => 0x8F :: longBytes o
  | .bcc o => [0x90, o]
  | .staDpindy o => [0x91, o]
  | .staDpind o => [0x92, o]
  | .staSrindy o => [0x93, o]
  | .styDpx o => [0x94, o]
  | .staDpx o => [0x95, o]
  | .stxDpy o => [0x96, o]
  | .staDpindly o => [0x97, o]
  | .tya => [0x98]
  | .staAbsy o => 0x99 :: wordBytes o
  | .txs => [0x9A]
  | .txy => [0x9B]
  | .stzAbs o => 0x9C :: wordBytes o
  | .staAbsx o => 0x9D :: wordBytes o
  | .stzAbsx o => 0x9E :: wordBytes o
  | .staLongx o => 0x9F :: longBytes o
  | .ldyImm o => 0xA0 :: o.bytes
  | .ldaDpxind o => [0xA1, o]
  | .ldxImm o => 0xA2 :: o.bytes
  | .ldaSr o => [0xA3, o]
  | .ldyDp o => [0xA4, o]
  | .ldaDp o => [0xA5, o]
  | .ldxDp o => [0xA6, o]
  | .ldaDpindl o => [0xA7, o]
  | .tay => [0xA8]
  | .ldaImm o => 0xA9 :: o.bytes
  | .tax => [0xAA]
  | .plb => [0xAB]
  | .ldyAbs o => 0xAC :: wordBytes o
  | .ldaAbs o => 0xAD :: wordBytes o
  | .ldxAbs o => 0xAE :: wordBytes o
  | .ldaLong o => 0xAF :: longBytes o
  | .bcs o => [0xB0, o]
  | .ldaDpindy o => [0xB1, o]
  | .ldaDpind o => [0xB2, o]
  | .ldaSrindy o => [0xB3, o]
  | .ldyDpx o => [0xB4, o]
  | .ldaDpx o => [0xB5, o]
  | .ldxDpy o => [0xB6, o]
  | .ldaDpindly o => [0xB7, o]
  | .clv => [0xB8]
  | .ldaAbsy o => 0xB9 :: wordBytes o
  | .tsx => [0xBA]
  | .tyx => [0xBB]
  | .ldyAbsx o => 0xBC :: wordBytes o
  | .ldaAbsx o => 0xBD :: wordBytes o
  | .ldxAbsy o => 0xBE :: wordBytes o
  | .ldaLongx o => 0xBF :: longBytes o
  | .cpyImm o => 0xC0 :: o.bytes
  | .cmpDpxind o => [0xC1, o]
  | .rep o => [0xC2, o]
  | .cmpSr o => [0xC3, o]
  | .cpyDp o => [0xC4, o]
  | .cmpDp o => [0xC5, o]
  | .decDp o => [0xC6, o]
  | .cmpDpindl o => [0xC7, o]
  | .iny => [0xC8]
  | .cmpImm o => 0xC9 :: o.bytes
  | .dex => [0xCA]
  | .wai => [0xCB]
  | .cpyAbs o => 0xCC :: wordBytes o
  | .cmpAbs o => 0xCD :: wordBytes o
  | .decAbs o => 0xCE :: wordBytes o
  | .cmpLong o => 0xCF :: longBytes o
  | .bne o => [0xD0, o]
  | .cmpDpindy o => [0xD1, o]
  | .cmpDpind o => [0xD2, o]
  | .cmpSrindy o => [0xD3, o]
  | .pei o => [0xD4, o]
  | .cmpDpx o => [0xD5, o]
  | .decDpx o => [0xD6, o]
  | .cmpDpindly o => [0xD7, o]
  | .cld => [0xD8]
  | .cmpAbsy o => 0xD9 :: wordBytes o
  | .phx => [0xDA]
  | .stp => [0xDB]
  | .jmlAbsindl o => 0xDC :: wordBytes o
  | .cmpAbsx o => 0xDD :: wordBytes o
  | .decAbsx o => 0xDE :: wordBytes o
  | .cmpLongx o => 0xDF :: longBytes o
  | .cpxImm o => 0xE0 :: o.bytes
  | .sbcDpxind o => [0xE1, o]
  | .sep o => [0xE2, o]
  | .sbcSr o => [0xE3, o]
  | .cpxDp o => [0xE4, o]
  | .sbcDp o => [0xE5, o]
  | .incDp o => [0xE6, o]
  | .sbcDpindl o => [0xE7, o]
  | .inx => [0xE8]
  | .sbcImm o => 0xE9 :: o.bytes
  | .nop => [0xEA]
  | .xba => [0xEB]
  | .cpxAbs o => 0xEC :: wordBytes o
  | .sbcAbs o => 0xED :: wordBytes o
  | .incAbs o => 0xEE :: wordBytes o
  | .sbcLong o => 0xEF :: longBytes o
  | .beq o => [0xF0, o]
  | .sbcDpindy o => [0xF1, o]
  | .sbcDpind o => [0xF2, o]
  | .sbcSrindy o => [0xF3, o]
  | .pea o => 0xF4 :: wordBytes o
  | .sbcDpx o => [0xF5, o]
  | .incDpx o => [0xF6, o]
  | .sbcDpindly o => [0xF7, o]
  | .sed => [0xF8]
  | .sbcAbsy o => 0xF9 :: wordBytes o
  | .plx => [0xFA]
  | .xce => [0xFB]
  | .jsrAbsxind o => 0xFC :: wordBytes o
  | .sbcAbsx o => 0xFD :: wordBytes o
  | .incAbsx o => 0xFE :: wordBytes o
  | .sbcLongx o => 0xFF :: longBytes o

/-- The n low bytes of a number, least significant first. -/
def bytesOf : Nat → Nat → List Byte
  | 0, _ => []
  | n + 1, w => BitVec.ofNat 8 w :: bytesOf n (w / 256)

/-- The longest instruction, in bytes (R171). -/
def maxLen : Nat := 4

/-- The instruction whose bits are the `nbits` low bits of w (byte 0 the opcode), every further bit 0, decoded under the
mode bits of the reset state, P.M = P.X = 1 (10_state.md R30). -/
def decodeTableWord (nbits w : Nat) : Option Instr :=
  match decode true true (bytesOf maxLen (w % 2 ^ nbits)) with
  | .ok (i, _) => some i
  | .error _ => none

end Sys2Proof
end

