-- ==== Sys2Proof/Machine/Power.lean ====
section
/-! DEFINITION. What the host does to the block between two steps (70_reset_and_hazards.md R620-R624; 20_memory.md
R117-R120; 46_cpu_io.md R510), and the reset sequence and the waiting step of the CPU (R622, R575). -/

namespace Sys2Proof.Machine

/-- A cartridge's devices, mappings and register claims over the fixed ones, the last mapping first (R113, R118). -/
def Bus.install (b : Bus) (devices : List MemDevice) (cart : Option Cart) : Bus :=
  match cart with
  | none => { b with devices := [], maps := fixedMaps, mmio := fixedClaims, cart := none }
  | some c =>
    { b with devices := devices, maps := c.maps.reverse ++ fixedMaps, mmio := c.claims ++ fixedClaims, cart := some c }

/-- The fixed system mapping, then the loaded cartridge's again (R119, R620, R621). The devices keep their content and their
write-protect flags, for which no rule gives a power or reset value (DEDUCED, log entry 23). -/
def Bus.reinstall (b : Bus) : Bus := b.install b.devices b.cart

/-- An agent's clock goes to 0 (R603). -/
def Agent.zero (g : Agent) : Agent := { g with clocks := 0 }

/-- Every agent's clock goes to 0, and no synchronize wait is left (R603). -/
def Sched.zero (x : Sched) : Sched :=
  { running := .cpu, audio := x.audio.zero, video := x.video.zero, coprocs := x.coprocs.map Agent.zero }

/-- `power()` (R620, R623). The parameters, the host's joypad words, the external interrupt level and the boundary's own
fields stay. -/
def power (s : State) : State :=
  { s with
    cpu := Cpu.power
    intr := Intr.init s.intr.interruptVector s.intr.extIrq s.intr.extIrqIn
    clk := Clock.init
    dma := Dma.power
    alu := Alu.init
    joy := Joypad.init s.joy.pad0 s.joy.pad1
    io := Io.power
    bus := { s.bus.reinstall with mdr := Config.openBusInit, wram := s.params.ramInit }
    sched := s.sched.zero }

/-- The write-protect flag of cartridge device k (R66, R110). -/
def setWriteProtect (k : Nat) (on : Bool) (s : State) : State :=
  { s with bus := { s.bus with devices := modifyDevice (fun d => { d with writeProtect := on }) s.bus.devices k } }

/-- The write-protect flags the host sets in a mapping change (R147). -/
def setProtection (l : List (Nat × Bool)) (s : State) : State := l.foldl (fun s p => setWriteProtect p.1 p.2 s) s

/-- A channel at a warm reset: its registers stay, its bits are cleared (R621). -/
def Channel.reset (c : Channel) : Channel :=
  { c with dmaEnabled := false, hdmaEnabled := false, hdmaCompleted := false, hdmaDoTransfer := false }

/-- `reset()`, the warm reset (R621, R623). The CPU registers are the reset sequence's; `run` goes to RUN at once (R38). -/
def reset (s : State) : State :=
  { s with
    cpu := { s.cpu with run := .run }
    intr := Intr.init s.intr.interruptVector s.intr.extIrq s.intr.extIrqIn
    clk := Clock.init
    dma := { Dma.power with channels := mapChannels Channel.reset s.dma.channels }
    alu := Alu.init
    joy := Joypad.init s.joy.pad0 s.joy.pad1
    io := { s.io with memsel := false }
    bus := { s.bus.reinstall with mdr := Config.openBusInit }
    sched := s.sched.zero }

/-- The registers the reset sequence sets (R622). -/
def Cpu.resetRegisters (c : Cpu) : Cpu :=
  { c with e := true, p := Status.init, x := zext (lo c.x), y := zext (lo c.y), s := word 0x01 (lo c.s)
           d := 0, db := 0, pb := 0 }

/-- `reset_sequence()` (R622): it pushes nothing. -/
def resetSequence (s : State) : State :=
  let s := { s with intr := { s.intr with resetPending := false }, cpu := { s.cpu with run := .run } }
  let s := (spend s.params.resetClocks s).mapCpu Cpu.resetRegisters
  let (t, s) := readVector 0x00 0xFFFC (setVector 0xFFFC s)
  s.mapCpu (fun c => c.setPc t)

/-- `wai_step()` (R575): the raw pending bits end the wait, whatever P.I says. -/
def waiStep (s : State) : State :=
  if s.intr.nmi.pending || s.intr.irq.pending || s.intr.resetPending then s.mapCpu (fun c => { c with run := .run })
  else idle s

/-- The kind of interrupt a boundary serves: NMI before IRQ (R560, R566). None when neither source is pending. -/
def Intr.dueKind (t : Intr) : Option IntKind :=
  if t.nmi.pending then some .nmi else if t.irq.pending then some .irq else none

/-- The request of a kind is no longer pending (R560). -/
def Intr.served (t : Intr) : IntKind → Intr
  | .nmi => { t with nmi := { t.nmi with pending := false } }
  | .irq => { t with irq := { t.irq with pending := false } }

/-- The part of `cpu_step()` that looks at `interrupt_pending` (R560): the field is cleared, and a pending source is
served; with none pending the step goes on with an instruction (the second component says so). -/
def boundary (s : State) : State × Bool :=
  if s.intr.interruptPending then
    let s := { s with intr := { s.intr with interruptPending := false } }
    match s.intr.dueKind with
    | some k => (takeInterrupt k { s with intr := s.intr.served k }, false)
    | none => (s, true)
  else (s, true)

/-- The external interrupt input with no coprocessor driving it yet (R551). -/
def Intr.undriven (t : Intr) : Intr := { t with extIrq := false }

/-- `load_cart()` (R118): the configuration errors of R117 and R120 are refused. A mapping of the dispatcher, or a claim,
outside the window 0x2000-0x5FFF is none of them and is admitted (DESIGN CHOICE, log entry 30). A new coprocessor's interrupt
output is 0 until it drives it (R551; DESIGN CHOICE, log entry 23). -/
def loadCart (c : Cart) (s : State) : Host.Outcome State Fault Refusal :=
  if !c.maps.all (MapRequest.admitted c.devices) then .refused .badMapping
  else if !claimsDistinct (c.claims ++ fixedClaims) then .refused .claimedTwice
  else
    .next { s with
      bus := s.bus.install c.devices (some c), sched := { s.sched with coprocs := c.coprocs }, intr := s.intr.undriven }

/-- `unload_cart()` (R118): the fixed mapping and nothing else; no coprocessor drives the interrupt input (R551). -/
def unloadCart (s : State) : State :=
  { s with bus := s.bus.install [] none, sched := { s.sched with coprocs := [] }, intr := s.intr.undriven }

/-- One action of the host. -/
def hostAction (a : HostAction) (s : State) : Host.Outcome State Fault Refusal :=
  match a with
  | .power protect => .next (power (setProtection protect s))
  | .reset protect => .next (reset (setProtection protect s))
  | .pad0 v => .next { s with joy := { s.joy with pad0 := v } }
  | .pad1 v => .next { s with joy := { s.joy with pad1 := v } }
  | .extIrq level => .next { s with intr := { s.intr with extIrq := s.extAttached && level } }
  | .lineClocks n => .next { s with clk := { s.clk with lineClocks := n } }
  | .video interlace overscan =>
    .next { s with params := { s.params with interlace := interlace, overscan := overscan } }
  | .loadCart c => loadCart c s
  | .unloadCart => .next (unloadCart s)

/-- The host's actions before one step, in order; the first one refused ends the step (R120, R624). -/
def hostActions : List HostAction → State → Host.Outcome State Fault Refusal
  | [], s => .next s
  | a :: l, s =>
    match hostAction a s with
    | .next s => hostActions l s
    | .fault f => .fault f
    | .refused r => .refused r

/-- What the host does before the coming step is taken off the input. -/
def takeHostInput (s : State) : Host.Outcome State Fault Refusal :=
  match s.hostIn with
  | [] => .next s
  | l :: rest => hostActions l { s with hostIn := rest }

end Sys2Proof.Machine
end

