-- ==== Sys2Proof/Machine/Fetch.lean ====
section
/-! DEFINITION. Fetching an instruction (30_encoding.md R171-R174; 10_state.md R39; 20_memory.md R140, R144), and placing one where
the next step fetches it. -/

namespace Sys2Proof.Machine

/-- The operand bytes fetched before a meaning starts: all of them, but for the two calls that push before their last
operand byte is fetched (R377, R378; log entry 11). -/
def earlyLen (m8 x8 : Bool) (op : Byte) : Nat :=
  if op = 0xFC then 1 else if op = 0x22 then 2 else operandLen m8 x8 op

/-- n times `fetch8()`, the bytes in order (R13). -/
def fetchBytes : Nat → State → List Byte × State
  | 0, s => ([], s)
  | n + 1, s =>
    let (b, s) := fetch8 s
    let (bs, s) := fetchBytes n s
    (b :: bs, s)

/-- The opcode and the early operand bytes, with the instruction they make. A late operand byte is looked at without a bus
cycle: the meaning fetches it again, when its time has come. The mode bits are those at the fetch (R171). -/
def fetchInstr (s : State) : Instr × State :=
  let m8 := s.cpu.p.m
  let x8 := s.cpu.p.x
  let (op, s) := fetch8 s
  let (bs, s) := fetchBytes (earlyLen m8 x8 op) s
  let bs := bs ++ [peek (long s.cpu.pb s.cpu.pc) s]
  (decodeOp m8 x8 op (bs.getD 0 0) (bs.getD 1 0) (bs.getD 2 0), s)

/-- Bytes stored from a bus address on, within its bank, without a bus cycle. -/
def storeBytes (b : Byte) : Word → List Byte → Bus → Bus
  | _, [], bus => bus
  | o, v :: vs, bus => storeBytes b (o + 1) vs (bus.store v (bus.resolve (long b o)))

/-- Whether storage holds the bytes from a bus address on. -/
def holdsBytes (b : Byte) : Word → List Byte → Bus → Bool
  | _, [], _ => true
  | o, v :: vs, bus => decide (bus.byteAt (long b o) = some v) && holdsBytes b (o + 1) vs bus

/-- The state whose next step fetches an instruction and does nothing before it: no host action, no reset, no wait and no
interrupt is due, and the controller does not own the bus. -/
def readyToFetch (s : State) : State :=
  { s with
    hostIn := []
    cpu := { s.cpu with run := .run }
    dma := { s.dma with active := false, running := false, clocks := 0 }
    intr := { s.intr with resetPending := false, interruptPending := false } }

/-- The bytes placed at PB:PC. Where PB:PC is no storage that takes them, PB:PC moves to 0x7E:0000 and the fixed map is
in force, so that they stand in work RAM. -/
def placeInstruction (bytes : List Byte) (s : State) : State :=
  let s := readyToFetch s
  let here := { s with bus := storeBytes s.cpu.pb s.cpu.pc bytes s.bus }
  if holdsBytes s.cpu.pb s.cpu.pc bytes here.bus then here
  else
    { s with
      cpu := { s.cpu with pb := 0x7E, pc := 0 }
      bus := storeBytes 0x7E 0 bytes { s.bus with maps := fixedMaps } }

end Sys2Proof.Machine
end

