-- ==== Sys2Proof/Machine/Step.lean ====
section
/-! DEFINITION. One step of the block (60_exceptions.md R560): the host's actions that were due, then one `cpu_step()`, or one
step of the DMA controller while it owns the bus (45_dma_hdma.md R441, R454). -/

namespace Sys2Proof.Machine

/-- `cpu_step()` (R560): reset first, then STP and WAI, then a due interrupt, then the instruction at PB:PC. -/
def cpuStep (s : State) : Host.Outcome State Fault Refusal :=
  if s.intr.resetPending then .next (resetSequence s)
  else
    match s.cpu.run with
    | .stp => .next (idle s)
    | .wai => .next (waiStep s)
    | .run =>
      let (s, go) := boundary s
      if go then
        let (i, s) := fetchInstr s
        exec i s
      else .next s

/-- What the block does next: while the controller owns the bus the CPU is suspended and the controller goes on (R441, R454),
unless a reset is due, which `cpu_step()` looks at first; else `cpu_step()` (DEDUCED, log entry 25). -/
def machineStep (s : State) : Host.Outcome State Fault Refusal :=
  if s.dma.active && !s.intr.resetPending then .next (dmaClock s) else cpuStep s

/-- One step: what the host did since the last one (R603, R624), then the block's own step. -/
def step (s : State) : Host.Outcome State Fault Refusal :=
  match takeHostInput s with
  | .next s => machineStep s
  | .fault f => .fault f
  | .refused r => .refused r

/-- s with the instruction whose low `nbits` bits are those of w, every further bit 0, placed where the next step fetches.
It stands for the load of a program from outside the machine (log entry 12). -/
def State.withFetchWord (s : State) (nbits w : Nat) : State :=
  placeInstruction (bytesOf maxLen (w % 2 ^ nbits)) s

end Sys2Proof.Machine
end

