-- ==== Sys2Proof/Machine/Run.lean ====
section
/-! DEFINITION. The host's run quantum (60_exceptions.md R597): the scheduler runs the CPU, step by step, until the counter
has been at line 0, position 0. -/

namespace Sys2Proof.Machine

/-- The host starts a quantum. -/
def startQuantum (s : State) : State := { s with clk := { s.clk with quantumOver := false } }

/-- The scheduler's loop, for at most n steps: it ends with the first step in which the quantum is over, or that has no next
state (R597). An agent takes whole steps, so the position may lie inside the last one (DEDUCED, log entry 24). -/
def runSteps : Nat → State → Host.Outcome State Fault Refusal
  | 0, s => .next s
  | n + 1, s =>
    match step s with
    | .next t => if t.clk.quantumOver then .next t else runSteps n t
    | .fault f => .fault f
    | .refused r => .refused r

/-- One run quantum of at most n steps. -/
def runQuantum (n : Nat) (s : State) : Host.Outcome State Fault Refusal := runSteps n (startQuantum s)

end Sys2Proof.Machine
end

