-- ==== Sys2Proof/Safety.lean ====
section
/-! DEFINITION. What counts as a safe state, in the terms the statements use: when the DMA controller is at rest, when
addresses are plain storage, what a step keeps, and the addresses an operand form touches. None of it is used by the
machine. -/

namespace Sys2Proof.Machine

/-- No DMA or HDMA work is pending and no channel has HDMA enabled: while this holds, only the CPU moves bytes. -/
def Quiet (s : State) : Prop :=
  s.dma.active = false ∧ s.dma.pending = false ∧ s.dma.hdmaPending = false ∧ ∀ n : Fin 8, (s.ch n).hdmaEnabled = false

/-- The address resolves to a byte of a memory device (R102, R110). -/
def Storage (s : State) (a : Addr) : Prop := (s.bus.byteAt a).isSome = true

/-- The address is no register: storage or the unmapped sentinel (R110, R115). -/
def NoRegister (s : State) (a : Addr) : Prop := (s.bus.resolve a).isRegister = false

/-- The byte a bus read of a non-register address returns: the storage byte, or the open-bus latch (R110). -/
def byteOr (s : State) (mdr : Byte) (a : Addr) : Byte := (s.bus.byteAt a).getD mdr

/-- Every byte of memory reads the same in both states. -/
def SameMemory (s t : State) : Prop := ∀ a : Addr, t.bus.byteAt a = s.bus.byteAt a

/-- The bus after the bytes of a list are stored one by one, without a bus cycle. -/
def storesOf (b : Bus) : List (Addr × Byte) → Bus
  | [] => b
  | p :: l => storesOf (b.store p.2 (b.resolve p.1)) l

/-- t's memory is s's with exactly these bytes stored, in this order: every address that resolves to none of them reads as
before, and every address reads as after those stores. -/
def Stores (s t : State) (l : List (Addr × Byte)) : Prop :=
  (∀ a : Addr, (∀ p ∈ l, s.bus.resolve a ≠ s.bus.resolve p.1) → t.bus.byteAt a = s.bus.byteAt a) ∧
  ∀ a : Addr, t.bus.byteAt a = (storesOf s.bus l).byteAt a

/-- A channel's registers, its four unmapped bits aside (R60). -/
def Channel.registers (c : Channel) : Byte × Byte × Word × Byte × Word × Byte × Word × Byte × Byte :=
  (c.dmap, c.bbad, c.a1t, c.a1b, c.das, c.dasb, c.a2a, c.ntrl, c.unused)

/-- The special registers that only software writes have the same values in both states: the port, speed and pointer
registers, the interrupt enables, raster positions, vector and reset request, the joypad strobe and enable, the operands of the
multiply/divide unit, the channel registers and MDMAEN's and HDMAEN's bits; and so do the memory map and the
parameters. -/
def SameSpecial (s t : State) : Prop :=
  t.io = s.io ∧ t.params = s.params ∧ t.bus.maps = s.bus.maps ∧ t.bus.mmio = s.bus.mmio ∧
  t.intr.nmi.valid = s.intr.nmi.valid ∧ t.intr.irq.valid = s.intr.irq.valid ∧
  t.intr.virqEn = s.intr.virqEn ∧ t.intr.hirqEn = s.intr.hirqEn ∧
  t.intr.htime = s.intr.htime ∧ t.intr.vtime = s.intr.vtime ∧
  t.intr.interruptVector = s.intr.interruptVector ∧ t.intr.resetPending = s.intr.resetPending ∧
  t.joy.strobe = s.joy.strobe ∧ t.joy.autojoyEn = s.joy.autojoyEn ∧ t.joy.pad0 = s.joy.pad0 ∧ t.joy.pad1 = s.joy.pad1 ∧
  t.alu.wrmpya = s.alu.wrmpya ∧ t.alu.wrmpyb = s.alu.wrmpyb ∧ t.alu.wrdiv = s.alu.wrdiv ∧ t.alu.wrdivb = s.alu.wrdivb ∧
  ∀ n : Fin 8, (t.ch n).registers = (s.ch n).registers ∧ (t.ch n).dmaEnabled = (s.ch n).dmaEnabled ∧
    (t.ch n).hdmaEnabled = (s.ch n).hdmaEnabled

/-- The addresses of the pointer bytes a mode reads before its data (R175). -/
def pointerBytes (s : State) : Mode → List Addr
  | .dpind o | .dpindy o => [(s.cpu.dpa (zext o)).byte 0, (s.cpu.dpa (zext o)).byte 1]
  | .dpxind o => [(s.cpu.dpa (zext o + s.cpu.x)).byte 0, (s.cpu.dpa (zext o + s.cpu.x)).byte 1]
  | .dpindl o | .dpindly o =>
    [(s.cpu.dpa (zext o)).byte 0, (s.cpu.dpa (zext o)).byte 1, (s.cpu.dpa (zext o)).byte 2]
  | .srindy o => [(s.sra o).byte 0, (s.sra o).byte 1]
  | _ => []

/-- The addresses of the data bytes of a width-w operand at an effective address (R175). -/
def dataBytes (w : Width) (ea : EA) : List Addr :=
  match w with
  | .w8 => [ea.byte 0]
  | .w16 => [ea.byte 0, ea.byte 1]

/-- The addresses an operand form reads or writes, in a state that is about to run it. -/
def operandBytes (acc : Access) (w : Width) (m : Mode) (s : State) : List Addr :=
  match m with
  | .imm _ => []
  | _ => pointerBytes s m ++ dataBytes w (effAddr acc m s).1

/-- What R32, R33 and R34 say of the mode bits at every instruction boundary. -/
def ModeInv (s : State) : Prop :=
  (s.cpu.e = true → s.cpu.p.m = true ∧ s.cpu.p.x = true ∧ hi s.cpu.s = 0x01) ∧
  (s.cpu.p.x = true → hi s.cpu.x = 0 ∧ hi s.cpu.y = 0)

/-- Every listed address is below n. -/
def Memory.within (n : Nat) (m : List Host.Cell) : Bool := m.all (fun c => decide (c.1 < n))

/-- A content in canonical form and inside its device. -/
def Memory.ok (n : Nat) (m : List Host.Cell) : Bool := Memory.wf m && Memory.within n m

/-- A device whose content is in canonical form and inside its size. -/
def MemDevice.ok (d : MemDevice) : Bool := Memory.ok d.size d.cells

/-- A host action that brings no ill-formed content. -/
def HostAction.ok : HostAction → Bool
  | .loadCart c => c.devices.all MemDevice.ok
  | _ => true

/-- The contents a bus holds are in canonical form and inside their devices. -/
def Bus.memoryOk (b : Bus) : Bool := Memory.ok Config.wramSize b.wram && b.devices.all MemDevice.ok

/-- Every memory content, present or still to come, is in canonical form and inside its device. -/
def MemoryInv (s : State) : Prop :=
  s.bus.memoryOk = true ∧ Memory.ok Config.wramSize s.params.ramInit = true ∧ s.hostIn.all (fun l => l.all HostAction.ok) = true

/-- The ranges 10_state.md gives the counters of the units, and that a byte of the controller is in progress only inside a
`dma_run()`, and a `dma_run()` only while the controller owns the bus (R49, R51, R52, R53, R442, R454, R511, R515). -/
def UnitInv (s : State) : Prop :=
  s.alu.mpyctr ≤ Config.mpyLatency ∧ s.alu.divctr ≤ Config.divLatency ∧
  (s.alu.mpyctr = 0 ∨ s.alu.divctr = 0) ∧
  s.intr.nmi.hold ≤ s.params.intHold ∧ s.intr.irq.hold ≤ s.params.intHold ∧
  s.dma.clocks ≤ Config.dmaByteClocks ∧ (s.dma.clocks ≠ 0 → s.dma.running = true) ∧
  (s.dma.running = true → s.dma.active = true) ∧
  s.joy.ser0.index ≤ 16 ∧ s.joy.ser1.index ≤ 16 ∧ s.joy.joy3 = 0 ∧ s.joy.joy4 = 0 ∧
  s.joy.autojoyBusy ≤ Config.autojoyBusyClocks

end Sys2Proof.Machine
end

