-- ==== Sys2Proof/Certificates/Slice0/Obligations.lean ====
section
/-! DEFINITION. The statements about the model. The first part (namespace Claims) holds the words they are made of:
numbers in place of bit vectors where the spec computes with numbers, one table per mnemonic from an instruction to its operand
form, and the frames. The second part is the statements, in the order of OBLIGATIONS.json. -/

namespace Sys2Proof.Claims

open Sys2Proof.Machine

/-! ### Values of a width -/

/-- 2^w for a width of w bits. -/
def modulus (w : Width) : Nat := 2 ^ w.bits

/-- The w-bit value in a register. -/
def low (w : Width) (v : Word) : Nat := v.toNat % modulus w

/-- A with a w-bit value written to it: AH stays when w is 8 (R14, R31). -/
def accWith (w : Width) (a : Word) (n : Nat) : Word :=
  match w with
  | .w8 => BitVec.ofNat 16 (a.toNat / 256 * 256 + n % 256)
  | .w16 => BitVec.ofNat 16 n

/-- X or Y with a w-bit value written to it: the high byte is 0 when w is 8 (R32). -/
def idx (w : Width) (n : Nat) : Word := BitVec.ofNat 16 (n % modulus w)

/-- `setNZ` (R220): N is the top bit of the w-bit value, Z says it is 0; the other flags stay. -/
def nz (w : Width) (n : Nat) (p : Status) : Status :=
  { p with n := decide (modulus w / 2 ≤ n % modulus w), z := decide (n % modulus w = 0) }

/-- A w-bit value as a two's complement number. -/
def signed (w : Width) (n : Nat) : Int :=
  if n % modulus w < modulus w / 2 then (n % modulus w : Int) else (n % modulus w : Int) - modulus w

/-- Whether a number is outside the range of w-bit two's complement. -/
def outside (w : Width) (r : Int) : Bool := decide (r < -((modulus w / 2 : Nat) : Int) ∨ ((modulus w / 2 : Nat) : Int) ≤ r)

/-- Bit k of a number. -/
def bit (n k : Nat) : Bool := decide (n / 2 ^ k % 2 = 1)

/-- P as the byte software sees (R35). -/
def statusByte (p : Status) : Nat :=
  128 * p.n.toNat + 64 * p.v.toNat + 32 * p.m.toNat + 16 * p.x.toNat + 8 * p.d.toNat + 4 * p.i.toNat + 2 * p.z.toNat +
    p.c.toNat

/-- The status a byte stands for (R35). -/
def statusOf (b : Nat) : Status :=
  { n := bit b 7, v := bit b 6, m := bit b 5, x := bit b 4, d := bit b 3, i := bit b 2, z := bit b 1, c := bit b 0 }

/-- The registers after P has been written through `write_P` (R400). -/
def forced (c : Cpu) (p : Status) : Cpu :=
  let p := if c.e then { p with m := true, x := true } else p
  { c with p := p, x := if p.x then idx .w8 c.x.toNat else c.x, y := if p.x then idx .w8 c.y.toNat else c.y }

/-! ### Bytes read -/

/-- The byte a bus read of a non-register address returns: storage, or the open-bus latch (R110). -/
def busByte (b : Bus) (mdr : Byte) (a : Addr) : Byte := (b.byteAt a).getD mdr

/-- The operand value of a reading instruction (R220). -/
def operand (w : Width) (m : Mode) (s : State) : Nat := (eaRead w m s).1.toNat

/-- The old memory value of a read-modify-write instruction. -/
def oldValue (w : Width) (m : Mode) (s : State) : Nat :=
  (readEA w (effAddr .rmw m s).1 (effAddr .rmw m s).2).1.toNat

/-! ### Frames -/

/-- While the controller is at rest, t's memory is s's; and where the addresses read are no registers, no special register
differs and the controller is still at rest. -/
def ReadsOnly (s t : State) (reads : List Addr) : Prop :=
  Quiet s → SameMemory s t ∧ ((∀ a ∈ reads, NoRegister s a) → SameSpecial s t ∧ Quiet t)

/-- While the controller is at rest and no address is a register, t's memory is s's with exactly these bytes stored, no
special register differs and the controller is still at rest. -/
def WritesTo (s t : State) (reads : List Addr) (l : List (Addr × Byte)) : Prop :=
  Quiet s → s.bus.memoryOk = true → (∀ a ∈ reads, NoRegister s a) → (∀ p ∈ l, NoRegister s p.1) →
    Stores s t l ∧ SameSpecial s t ∧ Quiet t

/-- The bytes of a w-bit value at an effective address, in the order a store writes them (R177). -/
def storedAt (w : Width) (ea : EA) (v : Word) : List (Addr × Byte) :=
  match w with
  | .w8 => [(ea.byte 0, lo v)]
  | .w16 => [(ea.byte 0, lo v), (ea.byte 1, hi v)]

/-- The bytes of a w-bit value at an effective address, in the order a read-modify-write writes them (R177). -/
def modifiedAt (w : Width) (ea : EA) (v : Word) : List (Addr × Byte) :=
  match w with
  | .w8 => [(ea.byte 0, lo v)]
  | .w16 => [(ea.byte 1, hi v), (ea.byte 0, lo v)]

/-! ### The stack -/

/-- The address of the k-th byte an 8-bit push sequence writes, k from 0 (R12, R34). -/
def pushSlot (c : Cpu) (k : Nat) : Addr :=
  if c.e = false ∨ k = 0 then long 0x00 (c.s - BitVec.ofNat 16 k) else long 0x00 (word 0x01 (lo c.s - BitVec.ofNat 8 k))

/-- The address of the k-th byte a pull sequence reads, k from 1 (R12, R34). -/
def pullSlot (c : Cpu) (k : Nat) : Addr :=
  if c.e then long 0x00 (word 0x01 (lo c.s + BitVec.ofNat 8 k)) else long 0x00 (c.s + BitVec.ofNat 16 k)

/-- S after k bytes have been pushed (R12, R34). -/
def pushedS (c : Cpu) (k : Nat) : Word :=
  if c.e then word 0x01 (lo c.s - BitVec.ofNat 8 k) else c.s - BitVec.ofNat 16 k

/-- S after k bytes have been pulled (R12, R34). -/
def pulledS (c : Cpu) (k : Nat) : Word :=
  if c.e then word 0x01 (lo c.s + BitVec.ofNat 8 k) else c.s + BitVec.ofNat 16 k

/-- The address of the k-th byte pushed by an instruction that uses the full S, k from 0 (R34). -/
def fullPushSlot (c : Cpu) (k : Nat) : Addr := long 0x00 (c.s - BitVec.ofNat 16 k)

/-- The address of the k-th byte pulled by an instruction that uses the full S, k from 1 (R34). -/
def fullPullSlot (c : Cpu) (k : Nat) : Addr := long 0x00 (c.s + BitVec.ofNat 16 k)

/-- Bytes in the order they are pushed, each at its slot. -/
def pushedAt (slot : Nat → Addr) (l : List Byte) : List (Addr × Byte) :=
  l.zipIdx.map (fun p => (slot p.2, p.1))

/-- The bytes of a word in the order they are pushed: high byte first (R12). -/
def highFirst (v : Word) : List Byte := [hi v, lo v]

/-! ### Addresses, as numbers -/

/-- `dpa(t, k)` (R176). -/
def dpaNat (c : Cpu) (t k : Nat) : Nat :=
  if c.e = true ∧ c.d.toNat % 256 = 0 then c.d.toNat / 256 * 256 + (t + k) % 256 else (c.d.toNat + t + k) % 65536

/-- A two-byte pointer at the two addresses a0 and a1, low byte first; an unmapped byte reads as the last byte on the
bus. -/
def pointerNat (s : State) (a0 a1 : Addr) : Nat :=
  let l := busByte s.bus s.bus.mdr a0
  l.toNat + 256 * (busByte s.bus l a1).toNat

/-- A three-byte pointer. -/
def pointer24Nat (s : State) (a0 a1 a2 : Addr) : Nat :=
  let l := busByte s.bus s.bus.mdr a0
  let h := busByte s.bus l a1
  l.toNat + 256 * h.toNat + 65536 * (busByte s.bus h a2).toNat

/-- A bus address from a number. -/
def addr (n : Nat) : Addr := BitVec.ofNat 24 n

/-- `addr_k` of each data-addressing mode (R175). -/
def addrNat (s : State) (m : Mode) (k : Nat) : Nat :=
  let c := s.cpu
  let x := c.x.toNat
  let y := c.y.toNat
  let db := c.db.toNat * 65536
  let dp := fun t j => addr (dpaNat c t j)
  let srn := fun (n : Nat) => if s.params.srPageWrap = true ∧ c.e = true then 256 + n % 256 else n % 65536
  let sr := fun (o : Byte) j => addr (srn (c.s.toNat + o.toNat + j))
  match m with
  | .imm _ => 0
  | .dp o => dpaNat c o.toNat k
  | .dpx o => dpaNat c ((o.toNat + x) % 65536) k
  | .dpy o => dpaNat c ((o.toNat + y) % 65536) k
  | .dpind o => (db + pointerNat s (dp o.toNat 0) (dp o.toNat 1) + k) % 2 ^ 24
  | .dpxind o => (db + pointerNat s (dp ((o.toNat + x) % 65536) 0) (dp ((o.toNat + x) % 65536) 1) + k) % 2 ^ 24
  | .dpindy o => (db + pointerNat s (dp o.toNat 0) (dp o.toNat 1) + y + k) % 2 ^ 24
  | .dpindl o => (pointer24Nat s (dp o.toNat 0) (dp o.toNat 1) (dp o.toNat 2) + k) % 2 ^ 24
  | .dpindly o => (pointer24Nat s (dp o.toNat 0) (dp o.toNat 1) (dp o.toNat 2) + y + k) % 2 ^ 24
  | .abs o => (db + o.toNat + k) % 2 ^ 24
  | .absx o => (db + o.toNat + x + k) % 2 ^ 24
  | .absy o => (db + o.toNat + y + k) % 2 ^ 24
  | .long o => (o.toNat + k) % 2 ^ 24
  | .longx o => (o.toNat + x + k) % 2 ^ 24
  | .sr o => srn (c.s.toNat + o.toNat + k)
  | .srindy o => (db + pointerNat s (sr o 0) (sr o 1) + y + k) % 2 ^ 24

/-- Whether a mode is an immediate. -/
def isImm : Mode → Bool
  | .imm _ => true
  | _ => false

/-! ### Operand forms -/

/-- The operand of an LDA (R225); none of any other instruction. -/
def ldaMode : Instr → Option Mode
  | .ldaDpxind o => some (.dpxind o)
  | .ldaSr o => some (.sr o)
  | .ldaDp o => some (.dp o)
  | .ldaDpindl o => some (.dpindl o)
  | .ldaImm o => some (.imm o)
  | .ldaAbs o => some (.abs o)
  | .ldaLong o => some (.long o)
  | .ldaDpindy o => some (.dpindy o)
  | .ldaDpind o => some (.dpind o)
  | .ldaSrindy o => some (.srindy o)
  | .ldaDpx o => some (.dpx o)
  | .ldaDpindly o => some (.dpindly o)
  | .ldaAbsy o => some (.absy o)
  | .ldaAbsx o => some (.absx o)
  | .ldaLongx o => some (.longx o)
  | _ => none

/-- The operand of an LDX (R226); none of any other instruction. -/
def ldxMode : Instr → Option Mode
  | .ldxImm o => some (.imm o)
  | .ldxDp o => some (.dp o)
  | .ldxAbs o => some (.abs o)
  | .ldxDpy o => some (.dpy o)
  | .ldxAbsy o => some (.absy o)
  | _ => none

/-- The operand of an LDY (R227); none of any other instruction. -/
def ldyMode : Instr → Option Mode
  | .ldyImm o => some (.imm o)
  | .ldyDp o => some (.dp o)
  | .ldyAbs o => some (.abs o)
  | .ldyDpx o => some (.dpx o)
  | .ldyAbsx o => some (.absx o)
  | _ => none

/-- The operand of an ADC (R305); none of any other instruction. -/
def adcMode : Instr → Option Mode
  | .adcDpxind o => some (.dpxind o)
  | .adcSr o => some (.sr o)
  | .adcDp o => some (.dp o)
  | .adcDpindl o => some (.dpindl o)
  | .adcImm o => some (.imm o)
  | .adcAbs o => some (.abs o)
  | .adcLong o => some (.long o)
  | .adcDpindy o => some (.dpindy o)
  | .adcDpind o => some (.dpind o)
  | .adcSrindy o => some (.srindy o)
  | .adcDpx o => some (.dpx o)
  | .adcDpindly o => some (.dpindly o)
  | .adcAbsy o => some (.absy o)
  | .adcAbsx o => some (.absx o)
  | .adcLongx o => some (.longx o)
  | _ => none

/-- The operand of an SBC (R306); none of any other instruction. -/
def sbcMode : Instr → Option Mode
  | .sbcDpxind o => some (.dpxind o)
  | .sbcSr o => some (.sr o)
  | .sbcDp o => some (.dp o)
  | .sbcDpindl o => some (.dpindl o)
  | .sbcImm o => some (.imm o)
  | .sbcAbs o => some (.abs o)
  | .sbcLong o => some (.long o)
  | .sbcDpindy o => some (.dpindy o)
  | .sbcDpind o => some (.dpind o)
  | .sbcSrindy o => some (.srindy o)
  | .sbcDpx o => some (.dpx o)
  | .sbcDpindly o => some (.dpindly o)
  | .sbcAbsy o => some (.absy o)
  | .sbcAbsx o => some (.absx o)
  | .sbcLongx o => some (.longx o)
  | _ => none

/-- The operand of an CMP (R307); none of any other instruction. -/
def cmpMode : Instr → Option Mode
  | .cmpDpxind o => some (.dpxind o)
  | .cmpSr o => some (.sr o)
  | .cmpDp o => some (.dp o)
  | .cmpDpindl o => some (.dpindl o)
  | .cmpImm o => some (.imm o)
  | .cmpAbs o => some (.abs o)
  | .cmpLong o => some (.long o)
  | .cmpDpindy o => some (.dpindy o)
  | .cmpDpind o => some (.dpind o)
  | .cmpSrindy o => some (.srindy o)
  | .cmpDpx o => some (.dpx o)
  | .cmpDpindly o => some (.dpindly o)
  | .cmpAbsy o => some (.absy o)
  | .cmpAbsx o => some (.absx o)
  | .cmpLongx o => some (.longx o)
  | _ => none

/-- The operand of an CPX (R308); none of any other instruction. -/
def cpxMode : Instr → Option Mode
  | .cpxImm o => some (.imm o)
  | .cpxDp o => some (.dp o)
  | .cpxAbs o => some (.abs o)
  | _ => none

/-- The operand of an CPY (R309); none of any other instruction. -/
def cpyMode : Instr → Option Mode
  | .cpyImm o => some (.imm o)
  | .cpyDp o => some (.dp o)
  | .cpyAbs o => some (.abs o)
  | _ => none

/-- The operand of an AND (R310); none of any other instruction. -/
def andMode : Instr → Option Mode
  | .andDpxind o => some (.dpxind o)
  | .andSr o => some (.sr o)
  | .andDp o => some (.dp o)
  | .andDpindl o => some (.dpindl o)
  | .andImm o => some (.imm o)
  | .andAbs o => some (.abs o)
  | .andLong o => some (.long o)
  | .andDpindy o => some (.dpindy o)
  | .andDpind o => some (.dpind o)
  | .andSrindy o => some (.srindy o)
  | .andDpx o => some (.dpx o)
  | .andDpindly o => some (.dpindly o)
  | .andAbsy o => some (.absy o)
  | .andAbsx o => some (.absx o)
  | .andLongx o => some (.longx o)
  | _ => none

/-- The operand of an ORA (R311); none of any other instruction. -/
def oraMode : Instr → Option Mode
  | .oraDpxind o => some (.dpxind o)
  | .oraSr o => some (.sr o)
  | .oraDp o => some (.dp o)
  | .oraDpindl o => some (.dpindl o)
  | .oraImm o => some (.imm o)
  | .oraAbs o => some (.abs o)
  | .oraLong o => some (.long o)
  | .oraDpindy o => some (.dpindy o)
  | .oraDpind o => some (.dpind o)
  | .oraSrindy o => some (.srindy o)
  | .oraDpx o => some (.dpx o)
  | .oraDpindly o => some (.dpindly o)
  | .oraAbsy o => some (.absy o)
  | .oraAbsx o => some (.absx o)
  | .oraLongx o => some (.longx o)
  | _ => none

/-- The operand of an EOR (R312); none of any other instruction. -/
def eorMode : Instr → Option Mode
  | .eorDpxind o => some (.dpxind o)
  | .eorSr o => some (.sr o)
  | .eorDp o => some (.dp o)
  | .eorDpindl o => some (.dpindl o)
  | .eorImm o => some (.imm o)
  | .eorAbs o => some (.abs o)
  | .eorLong o => some (.long o)
  | .eorDpindy o => some (.dpindy o)
  | .eorDpind o => some (.dpind o)
  | .eorSrindy o => some (.srindy o)
  | .eorDpx o => some (.dpx o)
  | .eorDpindly o => some (.dpindly o)
  | .eorAbsy o => some (.absy o)
  | .eorAbsx o => some (.absx o)
  | .eorLongx o => some (.longx o)
  | _ => none

/-- The operand of an STA (R228); none of any other instruction. -/
def staMode : Instr → Option Mode
  | .staDpxind o => some (.dpxind o)
  | .staSr o => some (.sr o)
  | .staDp o => some (.dp o)
  | .staDpindl o => some (.dpindl o)
  | .staAbs o => some (.abs o)
  | .staLong o => some (.long o)
  | .staDpindy o => some (.dpindy o)
  | .staDpind o => some (.dpind o)
  | .staSrindy o => some (.srindy o)
  | .staDpx o => some (.dpx o)
  | .staDpindly o => some (.dpindly o)
  | .staAbsy o => some (.absy o)
  | .staAbsx o => some (.absx o)
  | .staLongx o => some (.longx o)
  | _ => none

/-- The operand of an STX (R229); none of any other instruction. -/
def stxMode : Instr → Option Mode
  | .stxDp o => some (.dp o)
  | .stxAbs o => some (.abs o)
  | .stxDpy o => some (.dpy o)
  | _ => none

/-- The operand of an STY (R230); none of any other instruction. -/
def styMode : Instr → Option Mode
  | .styDp o => some (.dp o)
  | .styAbs o => some (.abs o)
  | .styDpx o => some (.dpx o)
  | _ => none

/-- The operand of an STZ (R231); none of any other instruction. -/
def stzMode : Instr → Option Mode
  | .stzDp o => some (.dp o)
  | .stzDpx o => some (.dpx o)
  | .stzAbs o => some (.abs o)
  | .stzAbsx o => some (.absx o)
  | _ => none

/-- The operand of a BIT with a memory operand (R313); none of any other instruction. -/
def bitMode : Instr → Option Mode
  | .bitDp o => some (.dp o)
  | .bitAbs o => some (.abs o)
  | .bitDpx o => some (.dpx o)
  | .bitAbsx o => some (.absx o)
  | _ => none

/-- The read-modify-write operations (R314, R315, R320-R325). -/
inductive Modify where
  | asl
  | lsr
  | rol
  | ror
  | inc
  | dec
  | tsb
  | trb
  deriving DecidableEq, Repr

/-- The operation and the memory operand of a read-modify-write instruction; none of any other instruction. -/
def modifyMode : Instr → Option (Modify × Mode)
  | .aslDp o => some (.asl, .dp o)
  | .aslAbs o => some (.asl, .abs o)
  | .aslDpx o => some (.asl, .dpx o)
  | .aslAbsx o => some (.asl, .absx o)
  | .lsrDp o => some (.lsr, .dp o)
  | .lsrAbs o => some (.lsr, .abs o)
  | .lsrDpx o => some (.lsr, .dpx o)
  | .lsrAbsx o => some (.lsr, .absx o)
  | .rolDp o => some (.rol, .dp o)
  | .rolAbs o => some (.rol, .abs o)
  | .rolDpx o => some (.rol, .dpx o)
  | .rolAbsx o => some (.rol, .absx o)
  | .rorDp o => some (.ror, .dp o)
  | .rorAbs o => some (.ror, .abs o)
  | .rorDpx o => some (.ror, .dpx o)
  | .rorAbsx o => some (.ror, .absx o)
  | .incDp o => some (.inc, .dp o)
  | .incAbs o => some (.inc, .abs o)
  | .incDpx o => some (.inc, .dpx o)
  | .incAbsx o => some (.inc, .absx o)
  | .decDp o => some (.dec, .dp o)
  | .decAbs o => some (.dec, .abs o)
  | .decDpx o => some (.dec, .dpx o)
  | .decAbsx o => some (.dec, .absx o)
  | .tsbDp o => some (.tsb, .dp o)
  | .tsbAbs o => some (.tsb, .abs o)
  | .trbDp o => some (.trb, .dp o)
  | .trbAbs o => some (.trb, .abs o)
  | _ => none

/-- The operation of a read-modify-write instruction on the accumulator; none of any other instruction. -/
def modifyAcc : Instr → Option Modify
  | .aslAcc => some .asl
  | .lsrAcc => some .lsr
  | .rolAcc => some .rol
  | .rorAcc => some .ror
  | .incAcc => some .inc
  | .decAcc => some .dec
  | _ => none

/-- A branch with an 8-bit displacement: the condition it tests and its displacement (R365-R373); none of any other
instruction. -/
def branchOf (p : Status) : Instr → Option (Bool × Byte)
  | .bpl r => some (!p.n, r)
  | .bmi r => some (p.n, r)
  | .bvc r => some (!p.v, r)
  | .bvs r => some (p.v, r)
  | .bcc r => some (!p.c, r)
  | .bcs r => some (p.c, r)
  | .bne r => some (!p.z, r)
  | .beq r => some (p.z, r)
  | .bra r => some (true, r)
  | _ => none

/-- The new value and the status of a read-modify-write operation on the w-bit value v, with A's w-bit value a (R314, R315,
R320-R325). -/
def modified (k : Modify) (w : Width) (a v : Nat) (p : Status) : Nat × Status :=
  match k with
  | .asl => (2 * v % modulus w, nz w (2 * v) { p with c := decide (modulus w / 2 ≤ v) })
  | .lsr => (v / 2, nz w (v / 2) { p with c := decide (v % 2 = 1) })
  | .rol => ((2 * v + p.c.toNat) % modulus w, nz w (2 * v + p.c.toNat) { p with c := decide (modulus w / 2 ≤ v) })
  | .ror =>
    (v / 2 + modulus w / 2 * p.c.toNat, nz w (v / 2 + modulus w / 2 * p.c.toNat) { p with c := decide (v % 2 = 1) })
  | .inc => ((v + 1) % modulus w, nz w (v + 1) p)
  | .dec => ((v + (modulus w - 1)) % modulus w, nz w (v + (modulus w - 1)) p)
  | .tsb => (v ||| a, { p with z := decide (a &&& v = 0) })
  | .trb => (v &&& (modulus w - 1 - a), { p with z := decide (a &&& v = 0) })

/-- The state between the fetch of an instruction's early bytes and its meaning: the last operand byte of JSR (abs,X) and
JSL is fetched late (R377, R378). -/
def lateBytes : Instr → Nat
  | .jsrAbsxind _ => 1
  | .jsl _ => 1
  | _ => 0

/-- An entry into a handler (R382, R570): the frame is pushed, I is set, D and PB are cleared, and PC comes from the
vector in bank 0. -/
def frameOf (c : Cpu) (pCopy : Byte) : List Byte :=
  (if c.e then [] else [c.pb]) ++ highFirst c.pc ++ [pCopy]

/-- t is s after an entry that pushes the copy pCopy of P and jumps through the vector. -/
def Enters (s t : State) (pCopy : Byte) (vector : Word) : Prop :=
  ∃ l h : Byte,
    t.cpu = { s.cpu with
      s := pushedS s.cpu (frameOf s.cpu pCopy).length
      p := { s.cpu.p with i := true, d := false }
      pb := 0x00
      pc := word h l } ∧
    (Quiet s → s.bus.memoryOk = true →
      (∀ q ∈ pushedAt (pushSlot s.cpu) (frameOf s.cpu pCopy), NoRegister s q.1) →
      NoRegister s (long 0x00 vector) → NoRegister s (long 0x00 (vector + 1)) →
      l = busByte (storesOf s.bus (pushedAt (pushSlot s.cpu) (frameOf s.cpu pCopy))) pCopy (long 0x00 vector) ∧
      h = busByte (storesOf s.bus (pushedAt (pushSlot s.cpu) (frameOf s.cpu pCopy))) l (long 0x00 (vector + 1)) ∧
      Stores s t (pushedAt (pushSlot s.cpu) (frameOf s.cpu pCopy)) ∧ SameSpecial s t ∧ Quiet t)

/-! ### Decimal numbers -/

/-- The number of decimal digits of a width. -/
def digits (w : Width) : Nat := w.bits / 4

/-- Hexadecimal digit k of a number. -/
def digit (n k : Nat) : Nat := n / 16 ^ k % 16

/-- Whether every digit is a decimal one. -/
def validBcd (w : Width) (n : Nat) : Prop := ∀ k < digits w, digit n k ≤ 9

/-- The number the digits below d stand for. -/
def bcd (n : Nat) : Nat → Nat
  | 0 => 0
  | d + 1 => bcd n d + digit n d * 10 ^ d

/-- The word whose d low digits are those of a decimal number. -/
def toBcd (v : Nat) : Nat → Nat
  | 0 => 0
  | d + 1 => toBcd v d + v / 10 ^ d % 10 * 16 ^ d

/-- One digit of a decimal sum, from the sum t of two hexadecimal digits and a carry: the digit and the carry out (R301). -/
def bcdDigit (sub : Bool) (t : Nat) : Nat × Bool :=
  if sub then (if 16 ≤ t then (t - 16, true) else ((t + 10) % 16, false))
  else if 10 ≤ t then ((t + 6) % 16, true)
  else (t, false)

/-- The sum of the d low digits of two words, digit by digit, lowest first, and the carry out of them (R301). -/
def bcdSum (sub : Bool) (a m : Nat) (c : Bool) : Nat → Nat × Bool
  | 0 => (0, c)
  | d + 1 =>
    let r := bcdSum sub a m c d
    let q := bcdDigit sub (digit a d + digit m d + r.2.toNat)
    (r.1 + q.1 * 16 ^ d, q.2)

/-! ### The decoder's loops -/

/-- R107's and R108's index wrap: `if size != 0: index <- index mod size`. -/
def wrapped (size i : Nat) : Nat := if size = 0 then i else i % size

/-- One bank's pages with the running index, and the index after them. -/
def pageWalk (size bank : Nat) : List Nat → Nat → List (Nat × Nat × Nat) × Nat
  | [], i => ([], i)
  | page :: l, i =>
    let r := pageWalk size bank l (wrapped size (i + 256))
    ((bank, page, i) :: r.1, r.2)

/-- R107's loop over the banks: every (bank, page, index) it visits. -/
def linearWalk (size : Nat) (pages : List Nat) : List Nat → Nat → List (Nat × Nat × Nat)
  | [], _ => []
  | bank :: l, i =>
    let r := pageWalk size bank pages i
    r.1 ++ linearWalk size pages l r.2

/-- R108's loop over the banks. -/
def shadowWalk (size pageLo pageHi : Nat) (pages : List Nat) : List Nat → Nat → List (Nat × Nat × Nat)
  | [], _ => []
  | bank :: l, i =>
    let r := pageWalk size bank pages (wrapped size (i + pageLo * 256))
    r.1 ++ shadowWalk size pageLo pageHi pages l (wrapped size (r.2 + (255 - pageHi) * 256))

/-- The numbers from a to b. -/
def span (a b : Nat) : List Nat := List.range' a (b + 1 - a)

/-! ### Registers and the controller -/

/-- The address reaches the CPU's own register at offset o (R115). -/
def CpuReg (s : State) (a : Addr) (o : Nat) : Prop :=
  (s.bus.resolve a).isRegister = true ∧ s.bus.owner a = some .cpu ∧ (offOf a).toNat = o

/-- Every mapping of the MMIO dispatcher lies in banks 0x00-0x3F or 0x80-0xBF, as in the fixed map (R113). -/
def SystemMmio (s : State) : Prop :=
  ∀ r ∈ s.bus.maps, r.dev = .mmio → r.bankHi ≤ 0x3F ∨ (0x80 ≤ r.bankLo ∧ r.bankHi ≤ 0xBF)

/-- The devices with the write-protect flags of a list set, the last one of a device counting (R147). -/
def protectedBy (l : List (Nat × Bool)) (devices : List MemDevice) : List MemDevice :=
  devices.zipIdx.map (fun p =>
    match l.reverse.find? (fun q => q.1 == p.2) with
    | some q => { p.1 with writeProtect := q.2 }
    | none => p.1)

/-- The byte count of a channel: 0 means 65536 (R453). -/
def count (c : Channel) : Nat := if c.das.toNat = 0 then 65536 else c.das.toNat

/-- The A-bus address n bytes on (R448). -/
def a1tAfter (c : Channel) (n : Nat) : Word :=
  if bit c.dmap.toNat 3 then c.a1t
  else if bit c.dmap.toNat 4 then c.a1t - BitVec.ofNat 16 n
  else c.a1t + BitVec.ofNat 16 n

/-- The unit of an HDMA channel: the B-bus offset and the A-bus address of each of its bytes, from the channel's registers as
the line begins (R445, R461, R465). -/
def unitOf (c : Channel) : List (Byte × Addr) :=
  let offsets : List Nat := match c.dmap.toNat % 8 with
    | 0 => [0]
    | 1 => [0, 1]
    | 2 | 6 => [0, 0]
    | 3 | 7 => [0, 0, 1, 1]
    | 4 => [0, 1, 2, 3]
    | _ => [0, 1, 0, 1]
  offsets.zipIdx.map (fun p =>
    (c.bbad + BitVec.ofNat 8 p.1,
     if bit c.dmap.toNat 6 then long c.dasb (c.das + BitVec.ofNat 16 p.2) else long c.a1b (c.a2a + BitVec.ofNat 16 p.2)))

/-- A channel after n bytes of its unit: the indirect address or the table pointer has moved (R461). -/
def unitAfter (n : Nat) (c : Channel) : Channel :=
  if bit c.dmap.toNat 6 then { c with das := c.das + BitVec.ofNat 16 n } else { c with a2a := c.a2a + BitVec.ofNat 16 n }

/-- The bytes of a unit moved one after another, channel n's pointer stepping before each (R465). -/
def moveUnit (n : Fin 8) (toA : Bool) : List (Byte × Addr) → State → State
  | [], s => s
  | p :: l, s => moveUnit n toA l (transfer toA p.1 p.2 (s.updCh n (unitAfter 1)))

/-- n polls of one source (R550). -/
def polls (intHold : Nat) : Nat → IntSource → IntSource
  | 0, s => s
  | n + 1, s => polls intHold n (s.poll intHold)

/-- n ticks of the multiply/divide unit (R498). -/
def ticks : Nat → Alu → Alu
  | 0, u => u
  | n + 1, u => ticks n u.tick

/-- n serial reads of a joypad port: the bits read, and the port after them (R513). -/
def serialReads (strobe : Bool) (pad : Word) : Nat → SerialPort → List Bool × SerialPort
  | 0, p => ([], p)
  | n + 1, p =>
    let r := p.bit strobe pad
    let q := serialReads strobe pad n r.2
    (r.1 :: q.1, q.2)

end Sys2Proof.Claims

open Sys2Proof
open Sys2Proof.Machine
open Sys2Proof.Claims

/-! ### Reset, power and the host -/

/-- The values 10_state.md gives for power-on, in State.reset. PC, the captured ALU operands and the OPEN parameters are left
out: the spec gives them no value (log entries 1, 2 and 4). That resetPending is true is the model's choice between R50
("Power: 0") and R620, whose `power()` ends by setting it (DEDUCED, log entry 21). -/
def Obligations.ResetState : Prop :=
  let s := State.reset
  (s.cpu.a = 0 ∧ s.cpu.x = 0 ∧ s.cpu.y = 0 ∧ s.cpu.s = 0x01FF ∧ s.cpu.d = 0 ∧ s.cpu.db = 0 ∧ s.cpu.pb = 0 ∧
    statusByte s.cpu.p = 0x34 ∧ s.cpu.e = true ∧ s.cpu.run = .run ∧ s.bus.mdr = 0x00) ∧
  (s.intr.interruptPending = false ∧ s.intr.resetPending = true ∧ s.intr.nmi = ⟨false, false, false, false, 0⟩ ∧
    s.intr.irq = ⟨false, false, false, false, 0⟩ ∧ s.intr.virqEn = false ∧ s.intr.hirqEn = false ∧
    s.intr.htime = 0x1FF ∧ s.intr.vtime = 0x1FF) ∧
  (s.clk.clockCount = 0 ∧ s.clk.lineClocks = 1364 ∧ s.clk.hcounter = 0 ∧ s.clk.vcounter = 0 ∧ s.clk.field = false ∧
    s.clk.dramRefreshPosition = 538 ∧ s.clk.dramRefreshed = false ∧ s.clk.hdmaInitPosition = 12 ∧
    s.clk.hdmaInitTriggered = false ∧ s.clk.hdmaPosition = 1104 ∧ s.clk.hdmaTriggered = false) ∧
  (s.dma.active = false ∧ s.dma.pending = false ∧ s.dma.hdmaPending = false ∧ s.dma.hdmaMode = .init ∧
    s.dma.channel = 0 ∧ s.dma.clocks = 0 ∧
    ∀ n : Fin 8, (s.ch n).registers = (0xFF, 0xFF, 0xFFFF, 0xFF, 0xFFFF, 0xFF, 0xFFFF, 0xFF, 0xFF) ∧
      (s.ch n).dmaEnabled = false ∧ (s.ch n).hdmaEnabled = false ∧ (s.ch n).hdmaCompleted = false ∧
      (s.ch n).hdmaDoTransfer = false) ∧
  (s.alu.wrmpya = 0xFF ∧ s.alu.wrmpyb = 0xFF ∧ s.alu.wrdiv = 0xFFFF ∧ s.alu.wrdivb = 0xFF ∧ s.alu.rddiv = 0 ∧
    s.alu.rdmpy = 0 ∧ s.alu.mpyctr = 0 ∧ s.alu.divctr = 0) ∧
  (s.joy.strobe = false ∧ s.joy.joy1 = 0 ∧ s.joy.joy2 = 0 ∧ s.joy.joy3 = 0 ∧ s.joy.joy4 = 0 ∧
    s.joy.ser0 = ⟨0, 0⟩ ∧ s.joy.ser1 = ⟨0, 0⟩ ∧ s.joy.autojoyBusy = 0 ∧ s.joy.autojoyEn = false) ∧
  (s.io.wrio = 0xFF ∧ s.io.memsel = false ∧ s.io.wmadd = 0) ∧
  (s.sched.running = .cpu ∧ s.sched.audio.clocks = 0 ∧ s.sched.video.clocks = 0)

/-- R622: while a reset is pending, the next step is the reset sequence, whatever the CPU was doing: it sets the registers,
keeps A, XL, YL and SL, writes no byte of memory, and takes PC from 0x00:FFFC. -/
def Obligations.ResetSequence : Prop :=
  ∀ s : State, s.hostIn = [] → s.intr.resetPending = true →
    ∃ (t : State) (l h : Byte), step s = .next t ∧
      t.cpu = { a := s.cpu.a, x := idx .w8 s.cpu.x.toNat, y := idx .w8 s.cpu.y.toNat, s := word 0x01 (lo s.cpu.s)
                d := 0, db := 0, pb := 0, pc := word h l, p := statusOf 0x34, e := true, run := .run } ∧
      (Quiet s → NoRegister s 0x00FFFC → NoRegister s 0x00FFFD →
        l = busByte s.bus s.bus.mdr 0x00FFFC ∧ h = busByte s.bus l 0x00FFFD ∧ SameMemory s t ∧
        t.intr.resetPending = false ∧ t.intr.interruptVector = 0xFFFC ∧ t.io = s.io ∧ Quiet t)

/-- R620, R621 and R623: what `power()` and the warm `reset()` leave. Both end with the reset sequence pending; reset keeps A,
X, Y, S, work RAM, WMADD, WRIO and the DMA channel registers. The model's choices in it: the power value of PC (log entry 1),
the 0 of the captured ALU operands and of the DMA loop index (log entry 2), that the page table is a list of calls (log entry
16), that reset_pending is 1 (log entry 21), that the host's joypad words and the cartridge's devices, their content and the
write-protect flags the host does not set in the event, survive both (log entry 23), and that fixedClaims holds the addresses
R55 calls unclaimed (log entry 29). -/
def Obligations.PowerAndReset : Prop :=
  (∀ (s : State) (l : List (Nat × Bool)), ∃ t, hostAction (.power l) s = .next t ∧
    t.cpu = State.reset.cpu ∧ t.clk = State.reset.clk ∧ t.dma = State.reset.dma ∧ t.alu = State.reset.alu ∧
    t.io = State.reset.io ∧ t.bus.mdr = 0x00 ∧ t.bus.wram = s.params.ramInit ∧ t.intr.resetPending = true ∧
    t.intr.interruptPending = false ∧ t.intr.nmi = State.reset.intr.nmi ∧ t.intr.irq = State.reset.intr.irq ∧
    t.intr.virqEn = false ∧ t.intr.hirqEn = false ∧ t.intr.htime = 0x1FF ∧ t.intr.vtime = 0x1FF ∧
    t.joy = { State.reset.joy with pad0 := s.joy.pad0, pad1 := s.joy.pad1 } ∧
    t.sched.audio.clocks = 0 ∧ t.sched.video.clocks = 0 ∧ (∀ g ∈ t.sched.coprocs, g.clocks = 0) ∧
    (s.bus.cart = none → t.bus.maps = fixedMaps ∧ t.bus.mmio = fixedClaims ∧ t.bus.devices = []) ∧
    (∀ c, s.bus.cart = some c → t.bus.maps = c.maps.reverse ++ fixedMaps ∧ t.bus.mmio = c.claims ++ fixedClaims ∧
      t.bus.devices = protectedBy l s.bus.devices)) ∧
  (∀ (s : State) (l : List (Nat × Bool)), ∃ t, hostAction (.reset l) s = .next t ∧
    t.cpu = { s.cpu with run := .run } ∧ t.clk = State.reset.clk ∧ t.alu = State.reset.alu ∧ t.bus.mdr = 0x00 ∧
    t.bus.wram = s.bus.wram ∧ t.bus.devices = (if s.bus.cart.isSome then protectedBy l s.bus.devices else []) ∧
    t.io.wrio = s.io.wrio ∧ t.io.wmadd = s.io.wmadd ∧ t.io.memsel = false ∧ t.intr.resetPending = true ∧
    t.intr.interruptPending = false ∧ t.intr.nmi = State.reset.intr.nmi ∧ t.intr.irq = State.reset.intr.irq ∧
    t.intr.virqEn = false ∧ t.intr.hirqEn = false ∧ t.intr.htime = 0x1FF ∧ t.intr.vtime = 0x1FF ∧
    t.joy = { State.reset.joy with pad0 := s.joy.pad0, pad1 := s.joy.pad1 } ∧
    t.dma.active = false ∧ t.dma.pending = false ∧ t.dma.hdmaPending = false ∧ t.dma.hdmaMode = .init ∧
    t.dma.channel = 0 ∧ t.dma.index = 0 ∧ t.dma.clocks = 0 ∧ t.dma.running = false ∧
    t.sched.audio.clocks = 0 ∧ t.sched.video.clocks = 0 ∧
    (∀ g ∈ t.sched.coprocs, g.clocks = 0) ∧
    (s.bus.cart = none → t.bus.maps = fixedMaps ∧ t.bus.mmio = fixedClaims) ∧
    (∀ c, s.bus.cart = some c → t.bus.maps = c.maps.reverse ++ fixedMaps ∧ t.bus.mmio = c.claims ++ fixedClaims) ∧
    ∀ n : Fin 8, (t.ch n).registers = (s.ch n).registers ∧ (t.ch n).dmaEnabled = false ∧
      (t.ch n).hdmaEnabled = false ∧ (t.ch n).hdmaCompleted = false ∧ (t.ch n).hdmaDoTransfer = false)

/-- R15, R540 and R120: no instruction stops, in any state; a step is refused only where the host loads a cartridge that is a
configuration error. The model's choices in the last clause: the CPU owns 0x420E, 0x420F and 0x43nC to 0x43nE too, which R55
calls unclaimed (log entry 29), and a claim of an owner's own address again is refused like a second owner's (log entry
31). -/
def Obligations.OnlyConfigurationIsRefused : Prop :=
  (∀ (i : Instr) (s : State), ∃ t, exec i s = .next t) ∧
  (∀ s : State, (∀ l ∈ s.hostIn.head?, ∀ a ∈ l, ∀ c, a ≠ HostAction.loadCart c) → ∃ t, step s = .next t) ∧
  (∀ s : State, (∃ t, step s = .next t) ∨ step s = .refused .badMapping ∨ step s = .refused .claimedTwice) ∧
  (∀ (c : Cart) (s : State), (∃ r ∈ c.maps, MapRequest.admitted c.devices r = false) →
    hostAction (.loadCart c) s = .refused .badMapping) ∧
  (∀ (c : Cart) (s : State), (∀ r ∈ c.maps, MapRequest.admitted c.devices r = true) →
    (∃ c1 ∈ c.claims, ∃ c2 ∈ fixedClaims, ∃ a : Nat, c1.lo ≤ a ∧ a ≤ c1.hi ∧ c2.lo ≤ a ∧ a ≤ c2.hi) →
    hostAction (.loadCart c) s = .refused .claimedTwice)

/-! ### Encoding -/

/-- R170: with three bytes after it, every opcode byte decodes to an instruction, under all mode bits. -/
def Obligations.DecodeTotal : Prop :=
  ∀ (m8 x8 : Bool) (op b1 b2 b3 : Byte), ∃ i rest, decode m8 x8 [op, b1, b2, b3] = .ok (i, rest)

/-- R172: the lengths of the mode-dependent immediates, of REP and SEP, of BRK, COP and WDM, of PEA and of the block moves,
with the operand each carries. -/
def Obligations.ImmediateWidths : Prop :=
  ∀ (m8 x8 : Bool) (b1 b2 : Byte) (r : List Byte),
    let w := word b2 b1
    let dm := fun (op : Byte) (f : Imm → Instr) => decode m8 x8 (op :: b1 :: b2 :: r) =
      .ok (if m8 then (f (.b8 b1), b2 :: r) else (f (.w16 w), r))
    let dx := fun (op : Byte) (f : Imm → Instr) => decode m8 x8 (op :: b1 :: b2 :: r) =
      .ok (if x8 then (f (.b8 b1), b2 :: r) else (f (.w16 w), r))
    let d1 := fun (op : Byte) (f : Byte → Instr) => decode m8 x8 (op :: b1 :: b2 :: r) = .ok (f b1, b2 :: r)
    (dm 0x09 .oraImm ∧ dm 0x29 .andImm ∧ dm 0x49 .eorImm ∧ dm 0x69 .adcImm ∧ dm 0x89 .bitImm ∧ dm 0xA9 .ldaImm ∧
      dm 0xC9 .cmpImm ∧ dm 0xE9 .sbcImm) ∧
    (dx 0xA0 .ldyImm ∧ dx 0xA2 .ldxImm ∧ dx 0xC0 .cpyImm ∧ dx 0xE0 .cpxImm) ∧
    (d1 0xC2 .rep ∧ d1 0xE2 .sep ∧ d1 0x00 .brk ∧ d1 0x02 .cop ∧ d1 0x42 .wdm) ∧
    decode m8 x8 (0xF4 :: b1 :: b2 :: r) = .ok (.pea w, r) ∧
    decode m8 x8 (0x54 :: b1 :: b2 :: r) = .ok (.mvn b1 b2, r) ∧
    decode m8 x8 (0x44 :: b1 :: b2 :: r) = .ok (.mvp b1 b2, r)

/-- Words written out from the examples of files 40 to 43, one or two of each family. -/
def Obligations.KnownWordsDecode : Prop :=
  decode true true [0xA9, 0x80] = .ok (.ldaImm (.b8 0x80), []) ∧
  decode true false [0xA2, 0x00, 0x00] = .ok (.ldxImm (.w16 0x0000), []) ∧
  decode false true [0x8D, 0x10, 0x00] = .ok (.staAbs 0x0010, []) ∧
  decode true true [0x69, 0x46] = .ok (.adcImm (.b8 0x46), []) ∧
  decode true true [0x24, 0x10] = .ok (.bitDp 0x10, []) ∧
  decode true true [0x0A] = .ok (.aslAcc, []) ∧
  decode false false [0x54, 0x7F, 0x7E] = .ok (.mvn 0x7F 0x7E, []) ∧
  decode false false [0xF4, 0x34, 0x12] = .ok (.pea 0x1234, []) ∧
  decode true true [0x30, 0xFC] = .ok (.bmi 0xFC, []) ∧
  decode true true [0x6C, 0x00, 0x20] = .ok (.jmpAbsind 0x2000, []) ∧
  decode true true [0x5C, 0x00, 0x80, 0xC0] = .ok (.jmlLong 0xC08000, []) ∧
  decode true true [0x22, 0x00, 0x90, 0x01] = .ok (.jsl 0x019000, []) ∧
  decode true true [0xC2, 0x30] = .ok (.rep 0x30, []) ∧
  decode true true [0xDB] = .ok (.stp, [])

/-- Decoding undoes encoding: every well-formed instruction, under its mode bits and with any bytes after it, is read back with
every operand bit and with exactly its own bytes consumed. -/
def Obligations.DecodeEncode : Prop :=
  ∀ (m8 x8 : Bool) (i : Instr) (rest : List Byte), i.wf m8 x8 = true →
    decode m8 x8 (encode i ++ rest) = .ok (i, rest)

/-- Encoding undoes decoding: whatever bytes decode to an instruction, the instruction is well formed and its encoding is the
bytes consumed; and a list that does not decode is shorter than its opcode's length. -/
def Obligations.EncodeDecode : Prop :=
  (∀ (m8 x8 : Bool) (l rest : List Byte) (i : Instr), decode m8 x8 l = .ok (i, rest) →
    i.wf m8 x8 = true ∧ encode i ++ rest = l) ∧
  ∀ (m8 x8 : Bool) (l : List Byte) (e : DecodeError), decode m8 x8 l = .error e → l.length < 4

/-! ### The step -/

/-- Where storage at PB:PC holds the bytes of a well-formed instruction and nothing is due before it, a step is `exec` of
that instruction in the state after the fetch of its bytes: PC is past them, the controller is at rest, no byte of memory
and no special register differs. The last byte of JSR (abs,X) and JSL is fetched by their meanings. -/
def Obligations.StepRunsInstruction : Prop :=
  ∀ (s : State) (bytes : List Byte) (i : Instr),
    s.hostIn = [] → s.intr.resetPending = false → s.cpu.run = .run → s.intr.interruptPending = false → Quiet s →
    decode s.cpu.p.m s.cpu.p.x bytes = .ok (i, []) →
    (∀ k : Nat, k < bytes.length →
      s.bus.byteAt (long s.cpu.pb (s.cpu.pc + BitVec.ofNat 16 k)) = some (bytes.getD k 0)) →
    ∃ f : State, step s = exec i f ∧
      f.cpu = { s.cpu with pc := s.cpu.pc + BitVec.ofNat 16 (bytes.length - lateBytes i) } ∧
      SameMemory s f ∧ SameSpecial s f ∧ Quiet f ∧ f.bus.mdr = bytes.getD (bytes.length - lateBytes i - 1) 0

/-- R560, R575 and R441: what a step does. Reset first; then, while the DMA controller owns the bus, the controller alone, one
step of its work (log entry 25); then STP and WAI; then NMI before IRQ, with the request's pending bit cleared; then the
instruction at PB:PC. -/
def Obligations.BoundaryOrder : Prop :=
  ∀ s : State, s.hostIn = [] →
    (s.intr.resetPending = true → step s = .next (resetSequence s)) ∧
    (s.intr.resetPending = false → s.dma.active = true →
      step s = .next (dmaClock s) ∧ (dmaClock s).cpu = s.cpu) ∧
    (s.intr.resetPending = false → s.dma.active = false →
      (s.cpu.run = .stp → step s = .next (idle s)) ∧
      (s.cpu.run = .wai → (s.intr.nmi.pending = true ∨ s.intr.irq.pending = true) →
        step s = .next { s with cpu := { s.cpu with run := .run } }) ∧
      (s.cpu.run = .wai → s.intr.nmi.pending = false → s.intr.irq.pending = false → step s = .next (idle s)) ∧
      (s.cpu.run = .run →
        (s.intr.interruptPending = true → s.intr.nmi.pending = true →
          step s = .next (takeInterrupt .nmi { s with intr := { s.intr with
            interruptPending := false, nmi := { s.intr.nmi with pending := false } } })) ∧
        (s.intr.interruptPending = true → s.intr.nmi.pending = false → s.intr.irq.pending = true →
          step s = .next (takeInterrupt .irq { s with intr := { s.intr with
            interruptPending := false, irq := { s.intr.irq with pending := false } } })) ∧
        (s.intr.interruptPending = false ∨ (s.intr.nmi.pending = false ∧ s.intr.irq.pending = false) →
          ∃ f : State, f = { s with intr := { s.intr with interruptPending := false } } ∧
            step s = exec (fetchInstr f).1 (fetchInstr f).2)))

/-- R570, R567 and R36: the entry into an NMI or IRQ handler. In emulation mode the pushed copy of P has bit 4 = 0 and bit 5 =
1: R36 says so, R570 writes `P AND 0xEF`; that bit 5 is 1 in every state is the model's choice (DEDUCED, log entry 19). -/
def Obligations.InterruptEntry : Prop :=
  ∀ (k : IntKind) (s : State),
    let vector : Word := match k with
      | .nmi => if s.cpu.e then 0xFFFA else 0xFFEA
      | .irq => if s.cpu.e then 0xFFFE else 0xFFEE
    let p := statusByte s.cpu.p
    let pCopy : Byte := BitVec.ofNat 8
      (if s.cpu.e then statusByte { s.cpu.p with x := false, m := true } else p)
    Enters { s with intr := { s.intr with interruptVector := vector } } (takeInterrupt k s) pCopy vector

/-! ### Invariants -/

/-- The three invariants hold right after reset. -/
def Obligations.InvariantsAtReset : Prop :=
  ModeInv State.reset ∧ MemoryInv State.reset ∧ UnitInv State.reset

/-- R32, R33 and R34: every step keeps the mode invariant. -/
def Obligations.StepKeepsModeInv : Prop :=
  ∀ s t : State, ModeInv s → step s = .next t → ModeInv t

/-- Every step keeps every memory content in canonical form and inside its device. -/
def Obligations.StepKeepsMemoryInv : Prop :=
  ∀ s t : State, MemoryInv s → step s = .next t → MemoryInv t

/-- Every step keeps the ranges of the units' counters, and a byte of the controller in progress only inside a `dma_run()`, and
that only while the controller owns the bus. -/
def Obligations.StepKeepsUnitInv : Prop :=
  ∀ s t : State, UnitInv s → step s = .next t → UnitInv t

/-! ### Operands -/

/-- R175 and R176: the effective address of every memory mode and every byte of it, as the spec's numbers. -/
def Obligations.EffectiveAddresses : Prop :=
  ∀ (acc : Access) (m : Mode) (s : State) (k : Nat), isImm m = false → Quiet s →
    (∀ a ∈ pointerBytes s m, NoRegister s a) →
    ((effAddr acc m s).1.byte k).toNat = addrNat s m k

/-- R220, R177 and R110: the value a reading instruction takes: an immediate's own value; in memory the bytes at the
effective address, low byte first, where an unmapped address reads as the last byte on the bus. -/
def Obligations.OperandValue : Prop :=
  (∀ (w : Width) (v : Imm) (s : State), operand w (.imm v) s =
    match v with
    | .b8 b => b.toNat
    | .w16 n => low w n) ∧
  ∀ (w : Width) (m : Mode) (s : State), isImm m = false → Quiet s →
    (∀ a ∈ operandBytes .read w m s, NoRegister s a) →
    (∀ o, m = .abs o ∨ m = .absx o ∨ m = .absy o → (effAddr .read m s).2.bus.mdr = s.bus.mdr) ∧
    let mdr := (effAddr .read m s).2.bus.mdr
    let b0 := busByte s.bus mdr ((effAddr .read m s).1.byte 0)
    operand w m s =
      match w with
      | .w8 => b0.toNat
      | .w16 => b0.toNat + 256 * (busByte s.bus b0 ((effAddr .read m s).1.byte 1)).toNat

/-! ### Loads and arithmetic -/

/-- R225, R226 and R227: LDA, LDX and LDY, every form. -/
def Obligations.LoadResults : Prop :=
  ∀ (i : Instr) (m : Mode) (s : State),
    let c := s.cpu
    (ldaMode i = some m → ∃ t, exec i s = .next t ∧ ReadsOnly s t (operandBytes .read c.mw m s) ∧
      t.cpu = { c with a := accWith c.mw c.a (operand c.mw m s), p := nz c.mw (operand c.mw m s) c.p }) ∧
    (ldxMode i = some m → ∃ t, exec i s = .next t ∧ ReadsOnly s t (operandBytes .read c.xw m s) ∧
      t.cpu = { c with x := idx c.xw (operand c.xw m s), p := nz c.xw (operand c.xw m s) c.p }) ∧
    (ldyMode i = some m → ∃ t, exec i s = .next t ∧ ReadsOnly s t (operandBytes .read c.xw m s) ∧
      t.cpu = { c with y := idx c.xw (operand c.xw m s), p := nz c.xw (operand c.xw m s) c.p })

/-- R305 and R306: ADC and SBC, every form: A, N, V, Z and C take what the adder gives; SBC hands it the complemented
operand. The adder itself is AddCoreBinary's and AddCoreDecimal's. -/
def Obligations.AdcSbcResults : Prop :=
  ∀ (i : Instr) (m : Mode) (s : State),
    let c := s.cpu
    let v : Word := BitVec.ofNat 16 (operand c.mw m s)
    let out := fun (r : AddResult) =>
      { c with a := accWith c.mw c.a r.value.toNat, p := nz c.mw r.value.toNat { c.p with v := r.v, c := r.c } }
    (adcMode i = some m → ∃ t, exec i s = .next t ∧ ReadsOnly s t (operandBytes .read c.mw m s) ∧
      t.cpu = out (addCore c.mw false c.p.d c.a v c.p.c)) ∧
    (sbcMode i = some m → ∃ t, exec i s = .next t ∧ ReadsOnly s t (operandBytes .read c.mw m s) ∧
      t.cpu = out (addCore c.mw true c.p.d c.a (~~~v) c.p.c))

/-- R300, R305 and R306 with D = 0: the adder computes the exact sum or difference and narrows it; carry is the carry out, or
no borrow; overflow says that the two's complement result does not fit. -/
def Obligations.AddCoreBinary : Prop :=
  ∀ (w : Width) (a m : Word) (c : Bool),
    let A := low w a
    let M := low w m
    let add := addCore w false false a m c
    let sub := addCore w true false a (~~~m) c
    (add.value.toNat = (A + M + c.toNat) % modulus w ∧ add.c = decide (modulus w ≤ A + M + c.toNat) ∧
      add.v = outside w (signed w A + signed w M + (c.toNat : Int))) ∧
    (((sub.value.toNat : Int) = ((A : Int) - (M : Int) - (1 - (c.toNat : Int))) % (modulus w : Int)) ∧
      sub.c = decide (M + 1 ≤ A + c.toNat) ∧
      sub.v = outside w (signed w A - signed w M - (1 - (c.toNat : Int))))

/-- R301, R305 and R306 with D = 1. On every operand, digits above 9 included, the result is the sum digit by digit, with each
digit's adjustment; carry is the top digit's, and V is the overflow of the top digits' sum before its adjustment. On decimal
operands the digits are those of the decimal sum or difference, and carry is the decimal carry or no borrow. -/
def Obligations.AddCoreDecimal : Prop :=
  (∀ (w : Width) (sub : Bool) (a m : Word) (c : Bool),
    let d := digits w
    let A := low w a
    let M := low w m
    let r := addCore w sub true a m c
    let top := digit A (d - 1) + digit M (d - 1) + (bcdSum sub A M c (d - 1)).2.toNat
    r.value.toNat = (bcdSum sub A M c d).1 ∧ r.c = (bcdSum sub A M c d).2 ∧
    r.v = (decide (8 ≤ digit A (d - 1)) == decide (8 ≤ digit M (d - 1)) &&
      decide (8 ≤ digit A (d - 1)) != decide (8 ≤ top % 16))) ∧
  ∀ (w : Width) (a m : Word) (c : Bool), validBcd w (low w a) → validBcd w (low w m) →
    let d := digits w
    let A := bcd (low w a) d
    let M := bcd (low w m) d
    let top := 10 ^ (d - 1)
    let add := addCore w false true a m c
    let sub := addCore w true true a (~~~m) c
    let carryIn := (if top ≤ A % top + M % top + c.toNat then 1 else 0)
    let noBorrow := (if M % top + 1 ≤ A % top + c.toNat then 1 else 0)
    (add.value.toNat = toBcd ((A + M + c.toNat) % 10 ^ d) d ∧ add.c = decide (10 ^ d ≤ A + M + c.toNat) ∧
      add.v = (decide (8 ≤ A / top) == decide (8 ≤ M / top) &&
        decide (8 ≤ A / top) != decide (8 ≤ (A / top + M / top + carryIn) % 16))) ∧
    (sub.value.toNat = toBcd ((A + 10 ^ d - M - 1 + c.toNat) % 10 ^ d) d ∧ sub.c = decide (M + 1 ≤ A + c.toNat) ∧
      sub.v = (decide (8 ≤ A / top) == decide (8 ≤ 15 - M / top) &&
        decide (8 ≤ A / top) != decide (8 ≤ (A / top + (15 - M / top) + noBorrow) % 16)))

/-- R307, R308 and R309: CMP, CPX and CPY, every form: only N, Z and C change. -/
def Obligations.CompareResults : Prop :=
  ∀ (i : Instr) (m : Mode) (s : State),
    let c := s.cpu
    let flags := fun (w : Width) (reg : Nat) =>
      nz w (reg + modulus w - operand w m s) { c.p with c := decide (operand w m s ≤ reg) }
    (cmpMode i = some m → ∃ t, exec i s = .next t ∧ ReadsOnly s t (operandBytes .read c.mw m s) ∧
      t.cpu = { c with p := flags c.mw (low c.mw c.a) }) ∧
    (cpxMode i = some m → ∃ t, exec i s = .next t ∧ ReadsOnly s t (operandBytes .read c.xw m s) ∧
      t.cpu = { c with p := flags c.xw (low c.xw c.x) }) ∧
    (cpyMode i = some m → ∃ t, exec i s = .next t ∧ ReadsOnly s t (operandBytes .read c.xw m s) ∧
      t.cpu = { c with p := flags c.xw (low c.xw c.y) })

/-- R310, R311 and R312: AND, ORA and EOR, every form. -/
def Obligations.LogicResults : Prop :=
  ∀ (i : Instr) (m : Mode) (s : State),
    let c := s.cpu
    let out := fun (r : Nat) => { c with a := accWith c.mw c.a r, p := nz c.mw r c.p }
    (andMode i = some m → ∃ t, exec i s = .next t ∧ ReadsOnly s t (operandBytes .read c.mw m s) ∧
      t.cpu = out (low c.mw c.a &&& operand c.mw m s)) ∧
    (oraMode i = some m → ∃ t, exec i s = .next t ∧ ReadsOnly s t (operandBytes .read c.mw m s) ∧
      t.cpu = out (low c.mw c.a ||| operand c.mw m s)) ∧
    (eorMode i = some m → ∃ t, exec i s = .next t ∧ ReadsOnly s t (operandBytes .read c.mw m s) ∧
      t.cpu = out (low c.mw c.a ^^^ operand c.mw m s))

/-- R313: BIT: Z is the test; N and V are the operand's two top bits, but for the immediate form, which leaves them. -/
def Obligations.BitResults : Prop :=
  (∀ (i : Instr) (m : Mode) (s : State), bitMode i = some m →
    let c := s.cpu
    let v := operand c.mw m s
    ∃ t, exec i s = .next t ∧ ReadsOnly s t (operandBytes .read c.mw m s) ∧
      t.cpu = { c with p := { c.p with
        n := bit v (c.mw.bits - 1), v := bit v (c.mw.bits - 2), z := decide (low c.mw c.a &&& v = 0) } }) ∧
  (∀ (o : Imm) (s : State), ∃ t, exec (.bitImm o) s = .next t ∧ ReadsOnly s t [] ∧
    t.cpu = { s.cpu with p := { s.cpu.p with
      z := decide (low s.cpu.mw s.cpu.a &&& operand s.cpu.mw (.imm o) s = 0) } })

/-! ### Stores and read-modify-writes -/

/-- R228 to R231: STA, STX, STY and STZ, every form: no register changes; the low bytes of the register, or zeros, are stored
at the effective address, low byte first, and nowhere else. -/
def Obligations.StoreResults : Prop :=
  ∀ (i : Instr) (m : Mode) (s : State),
    let c := s.cpu
    let ea := (effAddr .store m s).1
    let stores := fun (w : Width) (v : Word) => ∃ t, exec i s = .next t ∧ t.cpu = c ∧
      WritesTo s t (pointerBytes s m) (storedAt w ea v)
    (staMode i = some m → stores c.mw c.a) ∧ (stxMode i = some m → stores c.xw c.x) ∧
    (styMode i = some m → stores c.xw c.y) ∧ (stzMode i = some m → stores c.mw 0)

/-- R314, R315, R320 to R325 and R177: the memory forms of ASL, LSR, ROL, ROR, INC, DEC, TSB and TRB: only P's flags change,
and the new value is written at the effective address, high byte first, and nowhere else. -/
def Obligations.RmwMemory : Prop :=
  ∀ (i : Instr) (k : Modify) (m : Mode) (s : State), modifyMode i = some (k, m) →
    let c := s.cpu
    let r := modified k c.mw (low c.mw c.a) (oldValue c.mw m s) c.p
    ∃ t, exec i s = .next t ∧ t.cpu = { c with p := r.2 } ∧
      WritesTo s t [] (modifiedAt c.mw (effAddr .rmw m s).1 (BitVec.ofNat 16 r.1)) ∧
      (Quiet s → (∀ a ∈ dataBytes c.mw (effAddr .rmw m s).1, NoRegister s a) →
        let b0 := busByte s.bus s.bus.mdr ((effAddr .rmw m s).1.byte 0)
        oldValue c.mw m s =
          match c.mw with
          | .w8 => b0.toNat
          | .w16 => b0.toNat + 256 * (busByte s.bus b0 ((effAddr .rmw m s).1.byte 1)).toNat)

/-- R314, R315 and R320 to R323: the accumulator forms. -/
def Obligations.RmwAccumulator : Prop :=
  ∀ (i : Instr) (k : Modify) (s : State), modifyAcc i = some k →
    let c := s.cpu
    let r := modified k c.mw (low c.mw c.a) (low c.mw c.a) c.p
    ∃ t, exec i s = .next t ∧ ReadsOnly s t [] ∧ t.cpu = { c with a := accWith c.mw c.a r.1, p := r.2 }

/-! ### Registers and flags -/

/-- R235 to R247: the register transfers and XBA. -/
def Obligations.TransferResults : Prop :=
  ∀ s : State,
    let c := s.cpu
    let a := c.a.toNat
    let x := c.x.toNat
    let y := c.y.toNat
    let becomes := fun (i : Instr) (d : Cpu) => ∃ t, exec i s = .next t ∧ ReadsOnly s t [] ∧ t.cpu = d
    becomes .tax { c with x := idx c.xw a, p := nz c.xw a c.p } ∧
    becomes .tay { c with y := idx c.xw a, p := nz c.xw a c.p } ∧
    becomes .txa { c with a := accWith c.mw c.a x, p := nz c.mw x c.p } ∧
    becomes .tya { c with a := accWith c.mw c.a y, p := nz c.mw y c.p } ∧
    becomes .txy { c with y := idx c.xw x, p := nz c.xw x c.p } ∧
    becomes .tyx { c with x := idx c.xw y, p := nz c.xw y c.p } ∧
    becomes .tsx { c with x := idx c.xw c.s.toNat, p := nz c.xw c.s.toNat c.p } ∧
    becomes .txs { c with s := if c.e then BitVec.ofNat 16 (0x0100 + x % 256) else c.x } ∧
    becomes .tcs { c with s := if c.e then BitVec.ofNat 16 (0x0100 + a % 256) else c.a } ∧
    becomes .tsc { c with a := c.s, p := nz .w16 c.s.toNat c.p } ∧
    becomes .tcd { c with d := c.a, p := nz .w16 a c.p } ∧
    becomes .tdc { c with a := c.d, p := nz .w16 c.d.toNat c.p } ∧
    becomes .xba { c with a := BitVec.ofNat 16 (a % 256 * 256 + a / 256), p := nz .w8 (a / 256) c.p }

/-- R316 to R319 and R405 to R411: INX, INY, DEX and DEY, and the single-flag instructions. -/
def Obligations.IndexAndFlagInstructions : Prop :=
  ∀ s : State,
    let c := s.cpu
    let p := s.cpu.p
    let x := c.x.toNat
    let y := c.y.toNat
    let becomes := fun (i : Instr) (d : Cpu) => ∃ t, exec i s = .next t ∧ ReadsOnly s t [] ∧ t.cpu = d
    becomes .inx { c with x := idx c.xw (x + 1), p := nz c.xw (x + 1) p } ∧
    becomes .iny { c with y := idx c.xw (y + 1), p := nz c.xw (y + 1) p } ∧
    becomes .dex { c with x := idx c.xw (x + 65535), p := nz c.xw (x + 65535) p } ∧
    becomes .dey { c with y := idx c.xw (y + 65535), p := nz c.xw (y + 65535) p } ∧
    becomes .clc { c with p := { p with c := false } } ∧
    becomes .sec { c with p := { p with c := true } } ∧
    becomes .cli { c with p := { p with i := false } } ∧
    becomes .sei { c with p := { p with i := true } } ∧
    becomes .cld { c with p := { p with d := false } } ∧
    becomes .sed { c with p := { p with d := true } } ∧
    becomes .clv { c with p := { p with v := false } }

/-- R400 and R412 to R414: REP, SEP and XCE, with what they force on M, X, XH, YH and SH. -/
def Obligations.RepSepXce : Prop :=
  ∀ (m : Byte) (s : State),
    let c := s.cpu
    let p := s.cpu.p
    let b := fun k => bit m.toNat k
    let becomes := fun (i : Instr) (d : Cpu) => ∃ t, exec i s = .next t ∧ ReadsOnly s t [] ∧ t.cpu = d
    becomes (.rep m) (forced c { n := p.n && !b 7, v := p.v && !b 6, m := p.m && !b 5, x := p.x && !b 4
                                 d := p.d && !b 3, i := p.i && !b 2, z := p.z && !b 1, c := p.c && !b 0 }) ∧
    becomes (.sep m) (forced c { n := p.n || b 7, v := p.v || b 6, m := p.m || b 5, x := p.x || b 4
                                 d := p.d || b 3, i := p.i || b 2, z := p.z || b 1, c := p.c || b 0 }) ∧
    becomes .xce
      (if p.c then
        { c with e := true, p := { p with c := c.e, m := true, x := true }, x := idx .w8 c.x.toNat, y := idx .w8 c.y.toNat
                 s := BitVec.ofNat 16 (0x0100 + c.s.toNat % 256) }
       else { c with e := false, p := { p with c := c.e } })

/-- R415, R416, R424 and R425: NOP and WDM change no register (PC is already past them); WAI and STP change `run` only. -/
def Obligations.NopWdmWaiStp : Prop :=
  ∀ (o : Byte) (s : State),
    let becomes := fun (i : Instr) (d : Cpu) => ∃ t, exec i s = .next t ∧ ReadsOnly s t [] ∧ t.cpu = d
    becomes .nop s.cpu ∧ exec (.wdm o) s = .next s ∧ becomes .wai { s.cpu with run := .wai } ∧
    becomes .stp { s.cpu with run := .stp }

/-! ### Stack and block moves -/

/-- R250 to R254 and R256: PHA, PHX, PHY, PHP, PHB and PHK: the bytes go to the stack, high byte first, S falls by their
number, within page 1 in emulation mode, and nothing else changes. -/
def Obligations.Pushes : Prop :=
  ∀ s : State,
    let c := s.cpu
    let wide := fun (w : Width) (v : Word) => match w with
      | .w8 => [lo v]
      | .w16 => highFirst v
    let pushes := fun (i : Instr) (l : List Byte) => ∃ t, exec i s = .next t ∧
      t.cpu = { c with s := pushedS c l.length } ∧ WritesTo s t [] (pushedAt (pushSlot c) l)
    pushes .pha (wide c.mw c.a) ∧ pushes .phx (wide c.xw c.x) ∧ pushes .phy (wide c.xw c.y) ∧
    pushes .php [BitVec.ofNat 8 (statusByte c.p)] ∧ pushes .phb [c.db] ∧ pushes .phk [c.pb]

/-- R255, R263, R264, R265 and R34: PHD, PEA, PEI and PER push 16 bits at the full 16-bit S, and force SH afterwards. -/
def Obligations.FullPushes : Prop :=
  ∀ (o : Byte) (v : Word) (s : State),
    let c := s.cpu
    let pushes := fun (i : Instr) (reads : List Addr) (n : Word) => ∃ t, exec i s = .next t ∧
      t.cpu = { c with s := pushedS c 2 } ∧ WritesTo s t reads (pushedAt (fullPushSlot c) (highFirst n))
    let p0 := addr (dpaNat c o.toNat 0)
    let p1 := addr (dpaNat c o.toNat 1)
    pushes .phd [] c.d ∧ pushes (.pea v) [] v ∧ pushes (.pei o) [p0, p1] (BitVec.ofNat 16 (pointerNat s p0 p1)) ∧
    pushes (.per v) [] (BitVec.ofNat 16 (c.pc.toNat + v.toNat))

/-- R257 to R262 and R34: PLA, PLX, PLY, PLP, PLB and PLD: the registers take what the stack held, S rises by the number of
bytes, and no byte of memory changes. -/
def Obligations.Pulls : Prop :=
  ∀ s : State,
    let c := s.cpu
    let a1 := pullSlot c 1
    let a2 := pullSlot c 2
    let f1 := fullPullSlot c 1
    let f2 := fullPullSlot c 2
    let slots := fun (w : Width) => match w with
      | .w8 => [a1]
      | .w16 => [a1, a2]
    let value := fun (w : Width) => match w with
      | .w8 => (busByte s.bus s.bus.mdr a1).toNat
      | .w16 => pointerNat s a1 a2
    let bytes := fun (w : Width) => match w with
      | .w8 => 1
      | .w16 => 2
    let pulls := fun (i : Instr) (w : Width) (d : Nat → Cpu) => ∃ (t : State) (n : Nat), exec i s = .next t ∧
      n < modulus w ∧ t.cpu = d n ∧ ReadsOnly s t (slots w) ∧
      (Quiet s → (∀ a ∈ slots w, NoRegister s a) → n = value w)
    pulls .pla c.mw (fun n =>
      { c with s := pulledS c (bytes c.mw), a := accWith c.mw c.a n, p := nz c.mw n c.p }) ∧
    pulls .plx c.xw (fun n => { c with s := pulledS c (bytes c.xw), x := idx c.xw n, p := nz c.xw n c.p }) ∧
    pulls .ply c.xw (fun n => { c with s := pulledS c (bytes c.xw), y := idx c.xw n, p := nz c.xw n c.p }) ∧
    pulls .plp .w8 (fun n => forced { c with s := pulledS c 1 } (statusOf n)) ∧
    pulls .plb .w8 (fun n => { c with s := pulledS c 1, db := BitVec.ofNat 8 n, p := nz .w8 n c.p }) ∧
    ∃ (t : State) (n : Nat), exec .pld s = .next t ∧ n < 65536 ∧
      t.cpu = { c with s := pulledS c 2, d := BitVec.ofNat 16 n, p := nz .w16 n c.p } ∧ ReadsOnly s t [f1, f2] ∧
      (Quiet s → NoRegister s f1 → NoRegister s f2 → n = pointerNat s f1 f2)

/-- R268 and R269: MVN and MVP, one byte: from src:X to dst:Y; A falls by 1, X and Y move at width xw within their banks, DB
is dst, and PC goes back to the instruction until A has wrapped. -/
def Obligations.BlockMove : Prop :=
  ∀ (dst src : Byte) (s : State),
    let c := s.cpu
    let moves := fun (i : Instr) (x y : Nat) => ∃ (t : State) (v : Byte), exec i s = .next t ∧
      t.cpu = { c with db := dst, x := idx c.xw x, y := idx c.xw y, a := c.a - 1
                       pc := if c.a = 0 then c.pc else c.pc - 3 } ∧
      WritesTo s t [long src c.x] [(long dst c.y, v)] ∧
      (Quiet s → NoRegister s (long src c.x) → v = busByte s.bus s.bus.mdr (long src c.x))
    moves (.mvn dst src) (c.x.toNat + 1) (c.y.toNat + 1) ∧
    moves (.mvp dst src) (c.x.toNat + 65535) (c.y.toNat + 65535)

/-! ### Control transfer -/

/-- R361 and R365 to R374: a branch not taken changes nothing; a taken one goes to PC_next plus the displacement in the same
bank, after one internal cycle, and one more in emulation mode when the page changes. PC is PC_next in s. BRL always goes,
after one internal cycle. -/
def Obligations.Branches : Prop :=
  (∀ (i : Instr) (r : Byte) (s : State), branchOf s.cpu.p i = some (false, r) → exec i s = .next s) ∧
  (∀ (i : Instr) (r : Byte) (s : State), branchOf s.cpu.p i = some (true, r) →
    let target : Word := BitVec.ofNat 16 (s.cpu.pc.toNat + r.toNat + if r.toNat < 128 then 0 else 65280)
    let n := if s.cpu.e = true ∧ target.toNat / 256 ≠ s.cpu.pc.toNat / 256 then 2 else 1
    exec i s = .next { idles n s with cpu := { s.cpu with pc := target } } ∧
    ReadsOnly s { idles n s with cpu := { s.cpu with pc := target } } []) ∧
  (∀ (r : Word) (s : State),
    let t := { idles 1 s with cpu := { s.cpu with pc := BitVec.ofNat 16 (s.cpu.pc.toNat + r.toNat) } }
    exec (.brl r) s = .next t ∧ ReadsOnly s t [])

/-- R375 and R376: the jumps: JMP keeps PB, JML writes it; the pointers of (addr) and [addr] are in bank 0, the pointer of
(addr,X) in the program bank, each wrapping in its bank. -/
def Obligations.Jumps : Prop :=
  (∀ (o : Word) (s : State), exec (.jmpAbs o) s = .next { s with cpu := { s.cpu with pc := o } }) ∧
  (∀ (o : Addr) (s : State), exec (.jmlLong o) s =
    .next { s with cpu := { s.cpu with pc := BitVec.ofNat 16 o.toNat, pb := BitVec.ofNat 8 (o.toNat / 65536) } }) ∧
  (∀ (o : Word) (s : State),
    let a0 := long 0x00 o
    let a1 := long 0x00 (o + 1)
    let a2 := long 0x00 (o + 2)
    let x0 := long s.cpu.pb (o + s.cpu.x)
    let x1 := long s.cpu.pb (o + s.cpu.x + 1)
    (∃ (t : State) (v : Word), exec (.jmpAbsind o) s = .next t ∧ t.cpu = { s.cpu with pc := v } ∧
      ReadsOnly s t [a0, a1] ∧
      (Quiet s → NoRegister s a0 → NoRegister s a1 → v.toNat = pointerNat s a0 a1)) ∧
    (∃ (t : State) (v : Word), exec (.jmpAbsxind o) s = .next t ∧ t.cpu = { s.cpu with pc := v } ∧
      ReadsOnly s t [x0, x1] ∧
      (Quiet s → NoRegister s x0 → NoRegister s x1 → v.toNat = pointerNat s x0 x1)) ∧
    ∃ (t : State) (v : Word) (b : Byte), exec (.jmlAbsindl o) s = .next t ∧ t.cpu = { s.cpu with pc := v, pb := b } ∧
      ReadsOnly s t [a0, a1, a2] ∧
      (Quiet s → NoRegister s a0 → NoRegister s a1 → NoRegister s a2 →
        b.toNat * 65536 + v.toNat = pointer24Nat s a0 a1 a2))

/-- R377 and R378: JSR pushes the address of its last byte, PC_next - 1, and keeps PB. JSR (abs,X) pushes with the full S
before it fetches its second operand byte, and JSL pushes PB before it fetches the bank byte and the address after it, all
with the full S; a byte fetched late counts as it is then, and PC is PC_next - 1 in s for both. -/
def Obligations.Calls : Prop :=
  (∀ (o : Word) (s : State), ∃ t, exec (.jsrAbs o) s = .next t ∧
    t.cpu = { s.cpu with s := pushedS s.cpu 2, pc := o } ∧
    WritesTo s t [] (pushedAt (pushSlot s.cpu) (highFirst (s.cpu.pc - 1)))) ∧
  (∀ (o : Word) (s : State), ∃ (t : State) (h : Byte) (v : Word), exec (.jsrAbsxind o) s = .next t ∧
    t.cpu = { s.cpu with s := pushedS s.cpu 2, pc := v } ∧
    let pushed := pushedAt (fullPushSlot s.cpu) (highFirst s.cpu.pc)
    let b := storesOf s.bus pushed
    let p := word h (lo o) + s.cpu.x
    (Quiet s → s.bus.memoryOk = true → (∀ q ∈ pushed, NoRegister s q.1) →
      NoRegister s (long s.cpu.pb s.cpu.pc) →
      h = busByte b (lo s.cpu.pc) (long s.cpu.pb s.cpu.pc) ∧
      (NoRegister s (long s.cpu.pb p) → NoRegister s (long s.cpu.pb (p + 1)) →
        lo v = busByte b h (long s.cpu.pb p) ∧ hi v = busByte b (lo v) (long s.cpu.pb (p + 1)) ∧
        Stores s t pushed ∧ SameSpecial s t ∧ Quiet t))) ∧
  (∀ (o : Addr) (s : State), ∃ (t : State) (b : Byte), exec (.jsl o) s = .next t ∧
    t.cpu = { s.cpu with s := pushedS s.cpu 3, pc := BitVec.ofNat 16 o.toNat, pb := b } ∧
    (Quiet s → NoRegister s (fullPushSlot s.cpu 0) → NoRegister s (long s.cpu.pb s.cpu.pc) →
      b = busByte (storesOf s.bus [(fullPushSlot s.cpu 0, s.cpu.pb)]) s.cpu.pb (long s.cpu.pb s.cpu.pc)) ∧
    WritesTo s t [long s.cpu.pb s.cpu.pc] (pushedAt (fullPushSlot s.cpu) (s.cpu.pb :: highFirst s.cpu.pc)))

/-- R379, R380, R381, R571 and R400: RTS, RTL and RTI. RTS and RTL go one past the pulled address; RTI restores P (with what
`write_P` forces), PC and, in native mode, PB. -/
def Obligations.Returns : Prop :=
  ∀ s : State,
    let c := s.cpu
    let a1 := pullSlot c 1
    let a2 := pullSlot c 2
    let a3 := pullSlot c 3
    let a4 := pullSlot c 4
    let f1 := fullPullSlot c 1
    let f2 := fullPullSlot c 2
    let f3 := fullPullSlot c 3
    (∃ (t : State) (v : Word), exec .rts s = .next t ∧ t.cpu = { c with s := pulledS c 2, pc := v + 1 } ∧
      ReadsOnly s t [a1, a2] ∧
      (Quiet s → NoRegister s a1 → NoRegister s a2 → v.toNat = pointerNat s a1 a2)) ∧
    (∃ (t : State) (v : Word) (b : Byte), exec .rtl s = .next t ∧
      t.cpu = { c with s := pulledS c 3, pc := v + 1, pb := b } ∧ ReadsOnly s t [f1, f2, f3] ∧
      (Quiet s → NoRegister s f1 → NoRegister s f2 → NoRegister s f3 →
        b.toNat * 65536 + v.toNat = pointer24Nat s f1 f2 f3)) ∧
    ∃ (t : State) (p : Byte) (v : Word) (b : Byte), exec .rti s = .next t ∧
      t.cpu = forced { c with s := pulledS c (if c.e then 3 else 4), pc := v, pb := if c.e then c.pb else b }
        (statusOf p.toNat) ∧
      ReadsOnly s t (if c.e then [a1, a2, a3] else [a1, a2, a3, a4]) ∧
      (Quiet s → (∀ a ∈ (if c.e then [a1, a2, a3] else [a1, a2, a3, a4]), NoRegister s a) →
        v.toNat * 256 + p.toNat = pointer24Nat s a1 a2 a3 ∧
        (c.e = false → b = busByte s.bus (hi v) a4))

/-- R382, R383, R567 and R36: BRK and COP enter their handlers; in emulation mode the pushed copy of P has bits 5 and 4
set. PC is PC_next in s, past the signature byte. interrupt_vector takes the vector's address and no other special register
changes: that the two instructions write it is the model's choice (DEDUCED from R567, log entry 20). -/
def Obligations.BrkCop : Prop :=
  ∀ (o : Byte) (s : State),
    let pCopy : Byte := BitVec.ofNat 8
      (if s.cpu.e then statusByte { s.cpu.p with m := true, x := true } else statusByte s.cpu.p)
    let brk : Word := if s.cpu.e then 0xFFFE else 0xFFE6
    let cop : Word := if s.cpu.e then 0xFFF4 else 0xFFE4
    (∃ t, exec (.brk o) s = .next t ∧
      Enters { s with intr := { s.intr with interruptVector := brk } } t pCopy brk) ∧
    ∃ t, exec (.cop o) s = .next t ∧
      Enters { s with intr := { s.intr with interruptVector := cop } } t pCopy cop

/-! ### The address decoder -/

/-- R104, R110, R112 and R40: a write to storage is read back there and at its mirrors, and nowhere else; a write-protected
patchable device ignores it; an unmapped address reads the open-bus latch and ignores writes; the latch takes every byte. -/
def Obligations.MemoryWriteRead : Prop :=
  ∀ (s : State) (a : Addr) (v : Byte), s.bus.memoryOk = true →
    (∀ b : Addr, s.bus.resolve b ≠ s.bus.resolve a → NoRegister s a → (busWrite a v s).bus.byteAt b = s.bus.byteAt b) ∧
    (∀ (b : Addr) (i : Nat), s.bus.resolve a = .wram i → s.bus.isMirror a b = true →
      (busWrite a v s).bus.byteAt b = some v) ∧
    (∀ (b : Addr) (k i : Nat) (d : MemDevice), s.bus.resolve a = .dev k i → s.bus.devices[k]? = some d →
      s.bus.isMirror a b = true →
      (busWrite a v s).bus.byteAt b = if d.patchable = true ∧ d.writeProtect = true then s.bus.byteAt b else some v) ∧
    (∀ i : Nat, s.bus.resolve a = .unmapped i → busRead a s = (s.bus.mdr, s) ∧
      busWrite a v s = { s with bus := { s.bus with mdr := v } }) ∧
    (busRead a s).2.bus.mdr = (busRead a s).1 ∧ (busWrite a v s).bus.mdr = v

/-- R102, R106, R113, R114 and R115: what every bus address reaches under the fixed system mapping, and with which in-device
index: the dispatcher and the sentinel, mapped in Direct mode, get the bus address; so no two addresses of theirs are
mirrors (R112). -/
def Obligations.FixedSystemMap : Prop :=
  (∀ (b : Bus) (a : Addr), b.maps = fixedMaps →
    let bank := a.toNat / 65536
    let off := a.toNat % 65536
    b.resolve a =
      if bank = 0x7E ∨ bank = 0x7F then .wram (a.toNat - 0x7E0000)
      else if bank % 128 < 0x40 ∧ off < 0x2000 then .wram off
      else if bank % 128 < 0x40 ∧ 0x2000 ≤ off ∧ off < 0x6000 then .mmio a.toNat
      else .unmapped a.toNat) ∧
  ∀ (b : Bus) (a1 a2 : Addr), b.maps = fixedMaps → b.byteAt a1 = none → b.isMirror a1 a2 = true → a1 = a2

/-- R109: the properties of the fold, and its value on the 0x6000 example; with the loop counters of R107 and R108, it gives
every page's entry: the model's closed form of the running index is the loops'. -/
def Obligations.MirrorAndMapLoops : Prop :=
  (∀ a size : Nat, a < 2 ^ 24 → a < size → mirror a size = a) ∧
  (∀ a k : Nat, a < 2 ^ 24 → mirror a (2 ^ k) = a % 2 ^ k) ∧
  (∀ a size : Nat, 0 < size → mirror a size < size) ∧
  (∀ a : Nat, mirror a 0 = 0) ∧
  (∀ a : Nat, 0x6000 ≤ a → a < 0x8000 → mirror a 0x6000 = a - 0x2000) ∧
  (∀ (r : MapRequest) (q : Nat × Nat × Nat), r.mode = .linear →
    q ∈ linearWalk r.size (span (pageOf r.addrLo) (pageOf r.addrHi)) (span r.bankLo r.bankHi) 0 →
    r.index q.1 q.2.1 = q.2.2) ∧
  (∀ (r : MapRequest) (q : Nat × Nat × Nat), r.mode = .shadow →
    q ∈ shadowWalk r.size (pageOf r.addrLo) (pageOf r.addrHi) (span (pageOf r.addrLo) (pageOf r.addrHi))
      (span r.bankLo r.bankHi) 0 →
    r.index q.1 q.2.1 = q.2.2)

/-- R125: the master clocks of a bus cycle, region by region, and that a bus cycle takes them and an internal cycle 6 (a
write that starts a DMA apart). -/
def Obligations.SpeedTable : Prop :=
  (∀ (memsel : Bool) (a : Addr),
    let bank := a.toNat / 65536
    let off := a.toNat % 65536
    let rom := if memsel then 6 else 8
    let low := bank ≤ 0x3F ∨ (0x80 ≤ bank ∧ bank ≤ 0xBF)
    (low → off ≤ 0x1FFF → speed memsel a = 8) ∧
    (low → 0x2000 ≤ off → off ≤ 0x3FFF → speed memsel a = 6) ∧
    (low → 0x4000 ≤ off → off ≤ 0x41FF → speed memsel a = 12) ∧
    (low → 0x4200 ≤ off → off ≤ 0x5FFF → speed memsel a = 6) ∧
    (low → 0x6000 ≤ off → off ≤ 0x7FFF → speed memsel a = 8) ∧
    (bank ≤ 0x3F → 0x8000 ≤ off → speed memsel a = 8) ∧
    (0x80 ≤ bank → bank ≤ 0xBF → 0x8000 ≤ off → speed memsel a = rom) ∧
    (0x40 ≤ bank → bank ≤ 0x7F → speed memsel a = 8) ∧
    (0xC0 ≤ bank → speed memsel a = rom)) ∧
  ∀ (s : State) (a : Addr) (v : Byte), Quiet s →
    (read8 a s).2.clk = (spend (speed s.io.memsel a) s).clk ∧ (idle s).clk = (spend 6 s).clk ∧
    (Quiet (busWrite a v s) → (write8 a v s).clk = (spend (speed s.io.memsel a) s).clk)

/-! ### The CPU's own registers -/

/-- R500 and R501: the work-RAM port: WMDATA reads or writes the byte at WMADD and steps it modulo 2^17; WMADDL, WMADDM and
WMADDH set its parts and read as the open-bus latch. -/
def Obligations.WorkRamPort : Prop :=
  ∀ (s : State) (a : Addr) (v : Byte),
    let w := s.io.wmadd.toNat
    let next : BitVec 17 := BitVec.ofNat 17 ((w + 1) % 2 ^ 17)
    let wmadd := fun (n : Nat) => { s with io := { s.io with wmadd := BitVec.ofNat 17 n }, bus := { s.bus with mdr := v } }
    (CpuReg s a 0x2180 →
      busRead a s = (Memory.read s.bus.wram w,
        { s with io := { s.io with wmadd := next }, bus := { s.bus with mdr := Memory.read s.bus.wram w } }) ∧
      busWrite a v s =
        { s with io := { s.io with wmadd := next }
                 bus := { s.bus with mdr := v, wram := Memory.write s.bus.wram w v } }) ∧
    (CpuReg s a 0x2181 → busWrite a v s = wmadd (w / 256 * 256 + v.toNat)) ∧
    (CpuReg s a 0x2182 → busWrite a v s = wmadd (w / 65536 * 65536 + v.toNat * 256 + w % 256)) ∧
    (CpuReg s a 0x2183 → busWrite a v s = wmadd (v.toNat % 2 * 65536 + w % 65536)) ∧
    (CpuReg s a 0x2181 ∨ CpuReg s a 0x2182 ∨ CpuReg s a 0x2183 → busRead a s = (s.bus.mdr, s))

/-- R503, R506 and R507: what a write of NMITIMEN does to the interrupt sources, and what reads of RDNMI and TIMEUP answer and
clear. -/
def Obligations.InterruptRegisters : Prop :=
  ∀ (s : State) (a : Addr) (v : Byte),
    let n := s.intr.nmi
    let q := s.intr.irq
    let en := bit v.toNat 7
    let virq := bit v.toNat 5
    let hirq := bit v.toNat 4
    let mdr := s.bus.mdr.toNat
    (CpuReg s a 0x4200 → busWrite a v s =
      { s with
        bus := { s.bus with mdr := v }
        joy := { s.joy with autojoyEn := bit v.toNat 0 }
        intr := { s.intr with
          virqEn := virq, hirqEn := hirq
          nmi := { n with valid := en, transition := n.transition || (!n.valid && en && n.flag) }
          irq := { q with
            valid := virq || hirq
            flag := q.flag && (virq || hirq)
            transition := (virq || hirq) && (q.transition || (virq && !hirq && q.flag)) } } }) ∧
    (CpuReg s a 0x4210 →
      (busRead a s).1.toNat = 128 * n.flag.toNat + mdr / 16 % 8 * 16 + 2 ∧
      (busRead a s).2 = { s with
        intr := { s.intr with nmi := { n with flag := false } }, bus := { s.bus with mdr := (busRead a s).1 } } ∧
      busWrite a v s = { s with bus := { s.bus with mdr := v } }) ∧
    (CpuReg s a 0x4211 →
      (busRead a s).1.toNat = 128 * q.flag.toNat + mdr % 128 ∧
      (busRead a s).2 = { s with
        intr := { s.intr with irq := { q with flag := false, transition := false, hold := 0, pending := false } }
        bus := { s.bus with mdr := (busRead a s).1 } } ∧
      busWrite a v s = { s with bus := { s.bus with mdr := v } })

/-- R446, R460, R504, R505, R508, R509 and R60: the writes of MDMAEN, HDMAEN, WRIO, MEMSEL, HTIME and VTIME, the read of
HVBJOY, and the channel registers, which read back what was written. -/
def Obligations.ControlRegisters : Prop :=
  ∀ (s : State) (a : Addr) (v : Byte),
    let t := busWrite a v s
    let b := v.toNat
    (CpuReg s a 0x420B → (∀ n : Fin 8, t.ch n = { s.ch n with dmaEnabled := bit b n }) ∧
      t.dma.pending = (s.dma.pending || decide (b ≠ 0)) ∧ t.dma.hdmaPending = s.dma.hdmaPending ∧ t.cpu = s.cpu) ∧
    (CpuReg s a 0x420C → (∀ n : Fin 8, t.ch n = { s.ch n with hdmaEnabled := bit b n }) ∧
      t.dma.pending = s.dma.pending ∧ t.dma.hdmaPending = s.dma.hdmaPending ∧ t.cpu = s.cpu) ∧
    (CpuReg s a 0x4201 → t.io = { s.io with wrio := v } ∧
      t.ext.events = (if bit s.io.wrio.toNat 7 = true ∧ bit b 7 = false then .counterLatch :: s.ext.events
        else s.ext.events)) ∧
    (CpuReg s a 0x4213 → busRead a s = (s.io.wrio, { s with bus := { s.bus with mdr := s.io.wrio } })) ∧
    (CpuReg s a 0x420D → t = { s with io := { s.io with memsel := bit b 0 }, bus := { s.bus with mdr := v } }) ∧
    (CpuReg s a 0x4207 → t.intr.htime.toNat = s.intr.htime.toNat / 256 * 256 + b ∧ t.intr.irq = s.intr.irq) ∧
    (CpuReg s a 0x4208 → t.intr.htime.toNat = b % 2 * 256 + s.intr.htime.toNat % 256 ∧ t.intr.irq = s.intr.irq) ∧
    (CpuReg s a 0x4209 → t.intr.vtime.toNat = s.intr.vtime.toNat / 256 * 256 + b ∧ t.intr.irq = s.intr.irq) ∧
    (CpuReg s a 0x420A → t.intr.vtime.toNat = b % 2 * 256 + s.intr.vtime.toNat % 256 ∧ t.intr.irq = s.intr.irq) ∧
    (CpuReg s a 0x4212 →
      (busRead a s).1.toNat = 128 * (decide (s.params.vdisp ≤ s.clk.vcounter)).toNat +
        64 * (decide (s.clk.hcounter ≤ 2 ∨ 1096 ≤ s.clk.hcounter)).toNat + s.bus.mdr.toNat / 2 % 32 * 2 +
        (decide (s.joy.autojoyBusy ≠ 0)).toNat ∧
      (busRead a s).2 = { s with bus := { s.bus with mdr := (busRead a s).1 } } ∧
      t = { s with bus := { s.bus with mdr := v } }) ∧
    (∀ (n : Fin 8) (r : Nat), r < 16 → CpuReg s a (0x4300 + 16 * n + r) →
      (∀ k : Fin 8, k ≠ n → t.ch k = s.ch k) ∧
      (if r = 0xC ∨ r = 0xD ∨ r = 0xE then t.ch n = s.ch n ∧ (busRead a s).1 = s.bus.mdr
       else (busRead a t).1 = v))

/-- R490 to R498: a multiply posts its product 8 ticks after its start, a divide its quotient and remainder, or the sentinel
pair for a zero divisor, 16 ticks after; before that the old results stay; a start while busy stores its operand only. A read
of RDDIV or RDMPY gives the result register's byte at any time and changes nothing; a write of WRMPYA or WRDIV stores its byte
at any time and starts nothing. -/
def Obligations.MultiplyDivide : Prop :=
  (∀ (u : Alu) (v : Byte), u.mpyctr = 0 → u.divctr = 0 →
    let m := u.writeMpyB v
    let d := u.writeDivB v
    (∀ k < 8, (ticks k m).rdmpy = u.rdmpy ∧ (ticks k m).rddiv = u.rddiv) ∧
    (∀ k, 8 ≤ k → (ticks k m).rdmpy.toNat = u.wrmpya.toNat * v.toNat ∧ (ticks k m).rddiv.toNat = v.toNat ∧
      (ticks k m).mpyctr = 0 ∧ (ticks k m).divctr = 0) ∧
    (∀ k < 16, (ticks k d).rdmpy = u.rdmpy ∧ (ticks k d).rddiv = u.rddiv) ∧
    (∀ k, 16 ≤ k → (ticks k d).mpyctr = 0 ∧ (ticks k d).divctr = 0 ∧
      (ticks k d).rddiv.toNat = (if v.toNat = 0 then 0xFFFF else u.wrdiv.toNat / v.toNat) ∧
      (ticks k d).rdmpy.toNat = (if v.toNat = 0 then u.wrdiv.toNat else u.wrdiv.toNat % v.toNat))) ∧
  (∀ (u : Alu) (v : Byte), u.mpyctr ≠ 0 ∨ u.divctr ≠ 0 →
    u.writeMpyB v = { u with wrmpyb := v } ∧ u.writeDivB v = { u with wrdivb := v }) ∧
  (∀ (s : State) (a : Addr) (v : Byte), Quiet s → s.alu.mpyctr = 0 → s.alu.divctr = 0 →
    (CpuReg s a 0x4203 → ∀ k, (idles k (write8 a v s)).alu = ticks k (s.alu.writeMpyB v)) ∧
    (CpuReg s a 0x4206 → ∀ k, (idles k (write8 a v s)).alu = ticks k (s.alu.writeDivB v))) ∧
  (∀ (s : State) (a : Addr) (v : Byte),
    let reads := fun (o n : Nat) => CpuReg s a o → (busRead a s).1.toNat = n ∧
      (busRead a s).2 = { s with bus := { s.bus with mdr := (busRead a s).1 } } ∧
      busWrite a v s = { s with bus := { s.bus with mdr := v } }
    reads 0x4214 (s.alu.rddiv.toNat % 256) ∧ reads 0x4215 (s.alu.rddiv.toNat / 256) ∧
    reads 0x4216 (s.alu.rdmpy.toNat % 256) ∧ reads 0x4217 (s.alu.rdmpy.toNat / 256) ∧
    (∀ o : Nat, 0x4202 ≤ o → o ≤ 0x4206 → CpuReg s a o → busRead a s = (s.bus.mdr, s)) ∧
    let writes := fun (u : Alu) => busWrite a v s = { s with alu := u, bus := { s.bus with mdr := v } }
    let d := s.alu.wrdiv.toNat
    (CpuReg s a 0x4202 → writes { s.alu with wrmpya := v }) ∧
    (CpuReg s a 0x4204 → writes { s.alu with wrdiv := BitVec.ofNat 16 (d / 256 * 256 + v.toNat) }) ∧
    (CpuReg s a 0x4205 → writes { s.alu with wrdiv := BitVec.ofNat 16 (v.toNat * 256 + d % 256) }))

/-- R511 to R515: a serial read latches first while the strobe is 1; the serial port gives the 16 bits of the latched word,
bit 15 first, and then ones; while the strobe is 1 every read gives the host word's bit 15; a strobe write latches both
ports; the auto-poll writes JOY1 to JOY4; and their registers read their bytes and discard writes. -/
def Obligations.Joypads : Prop :=
  (∀ (pad data : Word) (k : Nat), SerialPort.bit true pad ⟨data, k⟩ = (bit pad.toNat 15, ⟨pad, 0⟩) ∧
    SerialPort.bit false pad ⟨data, k⟩ =
      if k < 16 then (bit data.toNat (15 - k), ⟨data, k + 1⟩) else (true, ⟨data, k⟩)) ∧
  (∀ (pad data : Word) (n : Nat), (serialReads false pad n ⟨data, 0⟩).1 =
    (List.range n).map (fun k => if k < 16 then bit data.toNat (15 - k) else true)) ∧
  (∀ (pad : Word) (n : Nat) (p : SerialPort), (serialReads true pad n p).1 = List.replicate n (bit pad.toNat 15)) ∧
  (∀ (s : State) (a : Addr) (v : Byte), CpuReg s a 0x4016 → (busWrite a v s).joy =
    if bit v.toNat 0 then { s.joy with strobe := true, ser0 := ⟨s.joy.pad0, 0⟩, ser1 := ⟨s.joy.pad1, 0⟩ }
    else { s.joy with strobe := false }) ∧
  (∀ (s : State) (a : Addr),
    let b0 := s.joy.ser0.bit s.joy.strobe s.joy.pad0
    let b1 := s.joy.ser1.bit s.joy.strobe s.joy.pad1
    (CpuReg s a 0x4016 → (busRead a s).1.toNat = s.bus.mdr.toNat / 4 * 4 + b0.1.toNat ∧
      (busRead a s).2.joy = { s.joy with ser0 := b0.2 }) ∧
    (CpuReg s a 0x4017 → (busRead a s).1.toNat = s.bus.mdr.toNat / 32 * 32 + 28 + b1.1.toNat ∧
      (busRead a s).2.joy = { s.joy with ser1 := b1.2 })) ∧
  (∀ s : State, s.clk.vcounter = s.params.vdisp → s.clk.hcounter = 2 →
    (eventAutojoy s).joy = if s.joy.autojoyEn then
      { s.joy with ser0 := ⟨s.joy.pad0, 16⟩, ser1 := ⟨s.joy.pad1, 16⟩, joy1 := s.joy.pad0, joy2 := s.joy.pad1
                   joy3 := 0, joy4 := 0, autojoyBusy := 4224 }
    else s.joy) ∧
  (∀ (s : State) (a : Addr) (v : Byte),
    let reads := fun (o n : Nat) => CpuReg s a o → (busRead a s).1.toNat = n ∧
      (busRead a s).2 = { s with bus := { s.bus with mdr := (busRead a s).1 } } ∧
      busWrite a v s = { s with bus := { s.bus with mdr := v } }
    reads 0x4218 (s.joy.joy1.toNat % 256) ∧ reads 0x4219 (s.joy.joy1.toNat / 256) ∧
    reads 0x421A (s.joy.joy2.toNat % 256) ∧ reads 0x421B (s.joy.joy2.toNat / 256) ∧
    reads 0x421C (s.joy.joy3.toNat % 256) ∧ reads 0x421D (s.joy.joy3.toNat / 256) ∧
    reads 0x421E (s.joy.joy4.toNat % 256) ∧ reads 0x421F (s.joy.joy4.toNat / 256))

/-! ### Interrupt sources and time -/

/-- R550, R551 and R555: an edge is pending INT_HOLD + 1 polls later and not before; the poll of the whole state says what is
due: a reset, an NMI, or an IRQ that P.I does not mask (while the DMA controller owns the bus, P.I as it took it: log entry
25); the external level is an edge at every poll that finds the IRQ
neither pending nor held; and it is 0 when no coprocessor is attached. That the coming levels are a list (log entry 13), and
that the level is 0 after a load until the new coprocessor drives it (log entry 23), are the model's choices. -/
def Obligations.EdgeBecomesPending : Prop :=
  (∀ (h n : Nat) (q : IntSource), q.transition = true → q.hold = 0 →
    (n ≤ h → (polls h n q).pending = q.pending) ∧ (h < n → (polls h n q).pending = true)) ∧
  (∀ (h n : Nat) (q : IntSource), q.transition = false → q.hold = 0 → polls h n q = q) ∧
  (∀ s : State, s.params.irqLevelMode = false → s.intr.extIrq = false → s.intr.extIrqIn = [] →
    (poll s).intr.nmi = s.intr.nmi.poll s.params.intHold ∧ (poll s).intr.irq = s.intr.irq.poll s.params.intHold) ∧
  (∀ s : State, (poll s).intr.interruptPending =
    (s.intr.resetPending || (poll s).intr.nmi.pending || ((poll s).intr.irq.pending && !(if s.dma.active then s.dma.maskI else s.cpu.p.i)))) ∧
  (∀ s : State, (s.sched.coprocs = [] → (poll s).intr.extIrq = false) ∧
    (s.sched.coprocs ≠ [] → (poll s).intr.extIrq = s.intr.extIrqIn.headD s.intr.extIrq) ∧
    (poll s).intr.extIrqIn = s.intr.extIrqIn.tail ∧
    ((poll s).intr.extIrq = true → s.intr.irq.pending = false → s.intr.irq.hold = 0 →
      (poll s).intr.irq = { s.intr.irq with
        transition := false, hold := s.params.intHold, pending := decide (s.params.intHold = 0) })) ∧
  (∀ (s t : State) (level : Bool) (c : Cart), (hostAction .unloadCart s = .next t → t.intr.irqLine = s.intr.irq.flag) ∧
    (hostAction (.loadCart c) s = .next t → t.intr.irqLine = s.intr.irq.flag) ∧
    (hostAction (.extIrq level) s = .next t →
      t.intr.irqLine = (s.intr.irq.flag || (level && !s.sched.coprocs.isEmpty))))

/-- R586, R546, R547 and R553: one master clock moves the counters; the NMI flag rises at line VDISP, position 2, and falls at
the start of a frame, where the host's run quantum is over too (R597); the raster compare raises the IRQ flag exactly where
its enables say. Which value of `field` has the extra line of an interlaced frame is the model's choice (log entry 15), and
that a limit below a counter is not met is its reading of R586 (DEDUCED, log entry 7). -/
def Obligations.MasterClock : Prop :=
  ∀ s : State,
    let t := clockBare s
    let endLine := decide (s.clk.hcounter + 1 = s.clk.lineClocks)
    let endFrame := endLine && decide (s.clk.vcounter + 1 = s.params.linesInFrame s.clk.field)
    let h := if endLine then 0 else s.clk.hcounter + 1
    let v := if endFrame then 0 else if endLine then s.clk.vcounter + 1 else s.clk.vcounter
    let frame := decide (v = 0 ∧ h = 0)
    let nmiEdge := decide (v = s.params.vdisp ∧ h = 2) && !s.intr.nmi.flag
    let target := 4 * s.intr.htime.toNat + 4
    let hit := match s.intr.virqEn, s.intr.hirqEn with
      | false, false => false
      | true, false => decide (v = s.intr.vtime.toNat ∧ h = 0)
      | false, true => decide (h = target)
      | true, true => decide (v = s.intr.vtime.toNat ∧ h = target)
    let irqEdge := hit && !s.intr.irq.flag
    t.clk.clockCount = s.clk.clockCount + 1 ∧ t.clk.hcounter = h ∧ t.clk.vcounter = v ∧
    t.clk.field = (s.clk.field != endFrame) ∧ t.clk.quantumOver = (s.clk.quantumOver || frame) ∧
    t.intr.nmi = { s.intr.nmi with
      flag := (s.intr.nmi.flag || nmiEdge) && !frame
      transition := s.intr.nmi.transition || (nmiEdge && s.intr.nmi.valid) } ∧
    t.intr.irq = { s.intr.irq with flag := s.intr.irq.flag || irqEdge, transition := s.intr.irq.transition || irqEdge }

/-- R586 and R590: a stretch of time that does not end the line takes exactly its clocks, or 40 more when it passes the DRAM
refresh position. -/
def Obligations.CycleTime : Prop :=
  (∀ (s : State) (k : Nat), s.clk.hcounter + k < s.clk.lineClocks →
    (s.clk.dramRefreshed = true ∨ s.clk.hcounter + k < s.clk.dramRefreshPosition ∨
        s.clk.dramRefreshPosition ≤ s.clk.hcounter) →
    (spend k s).clk.clockCount = s.clk.clockCount + k ∧ (spend k s).clk.hcounter = s.clk.hcounter + k ∧
    (spend k s).clk.vcounter = s.clk.vcounter) ∧
  (∀ (s : State) (k : Nat), s.clk.hcounter + k + 40 < s.clk.lineClocks → s.clk.dramRefreshed = false →
    s.clk.hcounter < s.clk.dramRefreshPosition → s.clk.dramRefreshPosition ≤ s.clk.hcounter + k →
    (spend k s).clk.clockCount = s.clk.clockCount + k + 40 ∧ (spend k s).clk.hcounter = s.clk.hcounter + k + 40 ∧
    (spend k s).clk.dramRefreshed = true)

/-- R598: `synchronize` runs the target in whole steps until it has caught up with the CPU, and no step longer; the CPU's own
time stands still. That every step of an agent takes the same number of its clocks, at least 1, is the model's choice (log
entry 14). -/
def Obligations.SynchronizeCatchesUp : Prop :=
  ∀ s : State,
    let f := s.params.cpuFreq
    let now := s.clk.clockCount
    let caught := fun (g g' : Agent) => g'.freq = g.freq ∧ g'.stepClocks = g.stepClocks ∧
      now * g.freq ≤ g'.clocks * f ∧
      ∃ k, g'.clocks = g.clocks + k * max 1 g.stepClocks ∧
        ∀ j < k, (g.clocks + j * max 1 g.stepClocks) * f < now * g.freq
    caught s.sched.audio (synchronize .audio s).sched.audio ∧
    caught s.sched.video (synchronize .video s).sched.video ∧
    (∀ (k : Nat) (g : Agent), s.sched.coprocs[k]? = some g →
      ∃ g', (synchronize (.coproc k) s).sched.coprocs[k]? = some g' ∧ caught g g') ∧
    ∀ x : AgentId, (synchronize x s).clk = s.clk ∧ (synchronize x s).cpu = s.cpu ∧ (synchronize x s).bus = s.bus

/-! ### DMA and HDMA -/

/-- R444 and R445: which A-bus addresses the controller reaches, and the B-bus offsets and unit lengths of the transfer
modes. -/
def Obligations.DmaAddressing : Prop :=
  (∀ a : Addr, (dmaAddrValid a = false ↔
    (a.toNat / 65536 ≤ 0x3F ∨ (0x80 ≤ a.toNat / 65536 ∧ a.toNat / 65536 ≤ 0xBF)) ∧
    (let o := a.toNat % 65536
     (0x2100 ≤ o ∧ o ≤ 0x21FF) ∨ (0x4000 ≤ o ∧ o ≤ 0x41FF) ∨ (0x4200 ≤ o ∧ o ≤ 0x421F) ∨ (0x4300 ≤ o ∧ o ≤ 0x437F)))) ∧
  (∀ (a : Addr) (v : Byte) (s : State),
    (dmaAddrValid a = true → dmaRead a s = busRead a s ∧ dmaWrite a v s = busWrite a v s) ∧
    (dmaAddrValid a = false → dmaRead a s = (0x00, s) ∧ dmaWrite a v s = s)) ∧
  (∀ k : Nat, bOffset 0 k = 0 ∧ (bOffset 1 k).toNat = k % 2 ∧ bOffset 2 k = 0 ∧ (bOffset 3 k).toNat = k / 2 % 2 ∧
    (bOffset 4 k).toNat = k % 4 ∧ (bOffset 5 k).toNat = k % 2 ∧ bOffset 6 k = 0 ∧ (bOffset 7 k).toNat = k / 2 % 2) ∧
  [0, 1, 2, 3, 4, 5, 6, 7].map unitLength = [1, 2, 2, 4, 4, 4, 2, 4]

/-- R441, R442, R448, R453, R454 and R455: with HDMA off and the MMIO dispatcher mapped as in the fixed map, a pending general
DMA takes the bus at the next cycle boundary and is at its end before the next cycle begins: every enabled channel's count is 0
and its A-bus address has moved by the number of bytes, the other channel registers and the CPU's registers are unchanged, and
every enable is cleared. And it can be suspended between any two master clocks of its bytes: after any number of the
controller's own steps, what is left of it leads to the same state. -/
def Obligations.GeneralDmaCompletes : Prop :=
  ∀ s : State, s.dma.pending = true → s.dma.hdmaPending = false → (∀ n : Fin 8, (s.ch n).hdmaEnabled = false) →
    SystemMmio s → s.dma.active = false → s.dma.running = false → s.dma.clocks = 0 →
    let t := startCycle (cycleEdge s)
    t.cpu = s.cpu ∧ Quiet t ∧ t.dma.running = false ∧ t.dma.clocks = 0 ∧
    (∀ n : Fin 8, (t.ch n).dmaEnabled = false ∧
      ((s.ch n).dmaEnabled = false → (t.ch n).registers = (s.ch n).registers) ∧
      ((s.ch n).dmaEnabled = true → (t.ch n).registers =
        { s.ch n with das := 0, a1t := a1tAfter (s.ch n) (count (s.ch n)) }.registers)) ∧
    ∀ k : Nat, startCycle (iterate dmaClock k (cycleEdge s)) = t

/-- R448, R449, R451, R452, R500: a general DMA from a cartridge device to WMDATA copies: byte i of the source goes to work RAM at
WMADD + i, for every byte of the count, and no other byte of work RAM changes. -/
def Obligations.DmaCopiesToWorkRam : Prop :=
  ∀ (s : State) (n : Fin 8), s.dma.pending = true → s.dma.hdmaPending = false → s.dma.active = false →
    s.dma.running = false → (∀ k : Fin 8, (s.ch k).hdmaEnabled = false) → (∀ k : Fin 8, (s.ch k).dmaEnabled = decide (k = n)) →
    s.bus.memoryOk = true → CpuReg s 0x002180 0x2180 →
    (s.ch n).dmap = 0x00 → (s.ch n).bbad = 0x80 →
    (∀ i < count (s.ch n), let a := long (s.ch n).a1b ((s.ch n).a1t + BitVec.ofNat 16 i)
      dmaAddrValid a = true ∧ (∃ k j, s.bus.resolve a = .dev k j) ∧ (s.bus.byteAt a).isSome = true) →
    let t := startCycle (cycleEdge s)
    t.io.wmadd = s.io.wmadd + BitVec.ofNat 17 (count (s.ch n)) ∧
    (∀ i < count (s.ch n), some (Memory.read t.bus.wram ((s.io.wmadd.toNat + i) % 2 ^ 17)) =
      s.bus.byteAt (long (s.ch n).a1b ((s.ch n).a1t + BitVec.ofNat 16 i))) ∧
    (∀ j < 2 ^ 17, (∀ i < count (s.ch n), j ≠ (s.io.wmadd.toNat + i) % 2 ^ 17) →
      Memory.read t.bus.wram j = Memory.read s.bus.wram j) ∧
    t.bus.devices = s.bus.devices

/-- R451 and R452: a transfer byte between WMDATA and work RAM does not copy: from A to B nothing is written; from B to A the
byte at the A-bus address becomes 0x00; the open-bus latch and WMADD stay. -/
def Obligations.WramConflict : Prop :=
  ∀ (s : State) (a : Addr) (i : Nat), s.bus.resolve a = .wram i → s.bus.memoryOk = true →
    (transfer false 0x80 a s).bus = s.bus ∧ (transfer false 0x80 a s).io = s.io ∧
    (transfer true 0x80 a s).bus.mdr = s.bus.mdr ∧ (transfer true 0x80 a s).io = s.io ∧
    (dmaAddrValid a = true → ∀ j, Memory.read (transfer true 0x80 a s).bus.wram j =
      if j = i then 0x00 else Memory.read s.bus.wram j)

/-- R463 and R464: the HDMA init of a channel whose table lies in storage: the table pointer is past the header (and past the
pointer in indirect mode), the line counter is the header, and a header of 0 ends the channel; the other channels stay. (In
indirect mode time passes after the two bits are set, and a frame's start could fall into it: the bits are claimed for the
other cases.) -/
def Obligations.HdmaInitChannel : Prop :=
  ∀ (s : State) (n : Fin 8), (s.ch n).hdmaEnabled = true →
    let c := s.ch n
    let table := fun (k : Nat) => long c.a1b (c.a1t + BitVec.ofNat 16 k)
    let byte := fun (k : Nat) => busByte s.bus 0 (table k)
    let indirect := bit c.dmap.toNat 6 && decide (byte 0 ≠ 0)
    (∀ k < (if indirect then 3 else 1), dmaAddrValid (table k) = true ∧ Storage s (table k)) →
    let t := hdmaInitChannel s n
    let u := t.ch n
    u.ntrl = byte 0 ∧
    (indirect = false → u.hdmaCompleted = decide (byte 0 = 0) ∧ u.hdmaDoTransfer = decide (byte 0 ≠ 0)) ∧
    u.a2a = c.a1t + (if indirect then 3 else 1) ∧ u.das = (if indirect then word (byte 2) (byte 1) else c.das) ∧
    u.dmaEnabled = false ∧ u.a1t = c.a1t ∧ u.a1b = c.a1b ∧ u.dmap = c.dmap ∧ u.bbad = c.bbad ∧ t.cpu = s.cpu ∧
    SameMemory s t ∧ ∀ k : Fin 8, k ≠ n → (t.ch k).registers = (s.ch k).registers ∧ (t.ch k).dmaEnabled = (s.ch k).dmaEnabled

/-- R445, R461, R464, R465 and R468: one channel in an HDMA run. A channel that is not active is left alone by both parts. The
transfer part of an active one cancels its general DMA and moves its unit, if it transfers on this line: the bytes of
`unitOf`, in order, from or to the addresses its registers give as the line begins, the pointer stepping with each; where the
B-bus registers are another agent's and the source is storage, exactly the source's bytes are sent to them. In the count
part the counter falls by 1 and its bit 7 says whether the next line transfers; after a header of 0x80 the parameter
hdmaRepeat128 chooses between R465's pseudocode and R464's words (DESIGN CHOICE, log entry 27); with no lines left the next table entry is read, with its pointer in indirect mode. (In indirect mode time
passes after the two bits are set, and a frame's start could fall into it: the bits are claimed for the other cases.) -/
def Obligations.HdmaRunChannel : Prop :=
  (∀ (s : State) (n : Fin 8), (s.ch n).hdmaEnabled = false ∨ (s.ch n).hdmaCompleted = true →
    hdmaTransferChannel s n = s ∧ hdmaCountChannel s n = s) ∧
  (∀ (s : State) (n : Fin 8), (s.ch n).hdmaEnabled = true → (s.ch n).hdmaCompleted = false →
    let c := s.ch n
    let t := hdmaTransferChannel s n
    let begun := s.updCh n (fun c => { c with dmaEnabled := false })
    (c.hdmaDoTransfer = false → t = begun) ∧
    (c.hdmaDoTransfer = true → SystemMmio s → t = moveUnit n (bit c.dmap.toNat 7) (unitOf c) begun) ∧
    (c.hdmaDoTransfer = true → bit c.dmap.toNat 7 = false →
      ∀ g : AgentId, g ≠ .cpu →
      (∀ p ∈ unitOf c, dmaAddrValid p.2 = true ∧ Storage s p.2 ∧ p.1 ≠ 0x80 ∧
        (s.bus.resolve (long 0x00 (word 0x21 p.1))).isRegister = true ∧ s.bus.owner (long 0x00 (word 0x21 p.1)) = some g) →
      t.ext.events =
        ((unitOf c).map (fun p => ExtEvent.write g (long 0x00 (word 0x21 p.1)) (busByte s.bus 0 p.2))).reverse ++
          s.ext.events ∧
      (t.ch n).registers = (unitAfter (unitOf c).length c).registers ∧ (t.ch n).dmaEnabled = false ∧
      t.cpu = s.cpu ∧ t.io = s.io ∧ SameMemory s t ∧
      ∀ k : Fin 8, k ≠ n → (t.ch k).registers = (s.ch k).registers ∧ (t.ch k).dmaEnabled = (s.ch k).dmaEnabled)) ∧
  (∀ (s : State) (n : Fin 8), (s.ch n).hdmaEnabled = true → (s.ch n).hdmaCompleted = false →
    let c := s.ch n
    let t := hdmaCountChannel s n
    let left := if s.params.hdmaRepeat128 = true ∧ c.ntrl.toNat = 128 then 255 else (c.ntrl.toNat + 255) % 256
    let table := fun (k : Nat) => long c.a1b (c.a2a + BitVec.ofNat 16 k)
    let byte := fun (k : Nat) => busByte s.bus 0 (table k)
    let indirect := bit c.dmap.toNat 6 && decide (byte 0 ≠ 0)
    (left % 128 ≠ 0 → t = s.updCh n (fun c => { c with ntrl := BitVec.ofNat 8 left, hdmaDoTransfer := bit left 7 })) ∧
    (left % 128 = 0 → (∀ k < (if indirect then 3 else 1), dmaAddrValid (table k) = true ∧ Storage s (table k)) →
      (t.ch n).registers = { c with
        ntrl := byte 0, a2a := c.a2a + (if indirect then 3 else 1)
        das := if indirect then word (byte 2) (byte 1) else c.das }.registers ∧
      (indirect = false → (t.ch n).hdmaDoTransfer = decide (byte 0 ≠ 0) ∧ (t.ch n).hdmaCompleted = decide (byte 0 = 0)) ∧
      t.cpu = s.cpu ∧ SameMemory s t ∧ ∀ k : Fin 8, k ≠ n → (t.ch k).registers = (s.ch k).registers))
end

