-- ==== Sys2Proof/Laws/Bits.lean ====
section
/-! SUPPORT. The fields of words and addresses, and the status byte: each assembly and its inverse. -/

namespace Sys2Proof
open Sys2Proof.Machine

theorem word_getLsbD (h l : Byte) (i : Nat) :
    (word h l).getLsbD i = if i < 8 then l.getLsbD i else h.getLsbD (i - 8) := by
  have := BitVec.getLsbD_append (x := h) (y := l) (i := i)
  rw [show (word h l).getLsbD i = (h ++ l).getLsbD i from rfl, this]

theorem long_getLsbD (h : Byte) (l : Word) (i : Nat) :
    (long h l).getLsbD i = if i < 16 then l.getLsbD i else h.getLsbD (i - 16) := by
  have := BitVec.getLsbD_append (x := h) (y := l) (i := i)
  rw [show (long h l).getLsbD i = (h ++ l).getLsbD i from rfl, this]

theorem lo_getLsbD (v : Word) (i : Nat) : (lo v).getLsbD i = (decide (i < 8) && v.getLsbD i) := by
  unfold lo; simp 

theorem hi_getLsbD (v : Word) (i : Nat) : (hi v).getLsbD i = (decide (i < 8) && v.getLsbD (8 + i)) := by
  unfold hi; rw [BitVec.getLsbD_extractLsb']

@[simp] theorem lo_word (h l : Byte) : lo (word h l) = l := by
  apply BitVec.eq_of_getLsbD_eq; intro i hi; rw [lo_getLsbD, word_getLsbD]; simp [hi]

@[simp] theorem hi_word (h l : Byte) : hi (word h l) = h := by
  apply BitVec.eq_of_getLsbD_eq; intro i hi; rw [hi_getLsbD, word_getLsbD]; simp [hi]

@[simp] theorem word_hi_lo (v : Word) : word (hi v) (lo v) = v := by
  apply BitVec.eq_of_getLsbD_eq; intro i h; rw [word_getLsbD, hi_getLsbD, lo_getLsbD]
  by_cases h8 : i < 8
  · simp [h8]
  · rw [if_neg h8, show 8 + (i - 8) = i by omega, decide_eq_true (show i - 8 < 8 by omega), Bool.true_and]

@[simp] theorem hi_zext (l : Byte) : hi (zext l) = 0 := by
  apply BitVec.eq_of_getLsbD_eq; intro i h; rw [hi_getLsbD]; simp [zext]

@[simp] theorem lo_zext (l : Byte) : lo (zext l) = l := by
  apply BitVec.eq_of_getLsbD_eq; intro i h; rw [lo_getLsbD]; simp [zext, h]; omega

@[simp] theorem bankOf_long (b : Byte) (o : Word) : bankOf (long b o) = b := by
  apply BitVec.eq_of_getLsbD_eq; intro i h; unfold bankOf; rw [BitVec.getLsbD_extractLsb', long_getLsbD]; simp [h]

@[simp] theorem offOf_long (b : Byte) (o : Word) : offOf (long b o) = o := by
  apply BitVec.eq_of_getLsbD_eq; intro i h; unfold offOf; rw [BitVec.getLsbD_setWidth, long_getLsbD]; simp [h]

@[simp] theorem long_bankOf_offOf (a : Addr) : long (bankOf a) (offOf a) = a := by
  apply BitVec.eq_of_getLsbD_eq; intro i h; rw [long_getLsbD]; unfold bankOf offOf
  rw [BitVec.getLsbD_extractLsb', BitVec.getLsbD_setWidth]
  by_cases h8 : i < 16
  · simp [h8]
  · rw [if_neg h8, show 16 + (i - 16) = i by omega, decide_eq_true (show i - 16 < 8 by omega), Bool.true_and]

@[simp] theorem ofByte_toByte (p : Status) : Status.ofByte p.toByte = p := by
  rcases p with ⟨a,b,c,d,e,f,g,h⟩; revert a b c d e f g h; decide

@[simp] theorem toByte_ofByte (b : Byte) : (Status.ofByte b).toByte = b := by
  revert b; decide

@[simp] theorem trunc_w16 (v : Word) : trunc .w16 v = v := rfl
@[simp] theorem setLow_w16 (old v : Word) : setLow .w16 old v = v := rfl

/-- The high byte of a value truncated to 8 bits is 0. -/
@[simp] theorem hi_trunc_w8 (v : Word) : hi (trunc .w8 v) = 0 := by simp [trunc]

/-- The low byte survives truncation to either width. -/
@[simp] theorem lo_trunc (w : Width) (v : Word) : lo (trunc w v) = lo v := by cases w <;> simp [trunc]

end Sys2Proof
end

