-- ==== Sys2Proof/Laws/Memory.lean ====
section
/-! SUPPORT. The laws of memory content: a read after a write, and that a write keeps the canonical form. -/

namespace Sys2Proof.Machine

/-- An address below every listed one reads as the fill byte. -/
theorem Memory.read_of_wfFrom {m : List Host.Cell} {low a : Nat} (h : Memory.wfFrom low m = true) (ha : a < low) :
    Memory.read m a = Memory.fill := by
  cases m with
  | nil => rfl
  | cons c m =>
    simp only [Memory.wfFrom, Bool.and_eq_true, decide_eq_true_eq] at h
    have h1 : ¬ a = c.1 := by omega
    have h2 : a < c.1 := by omega
    simp [Memory.read, h1, h2]

/-- The bound of a canonical content can be lowered. -/
theorem Memory.wfFrom_mono {m : List Host.Cell} {low low' : Nat} (h : Memory.wfFrom low m = true) (hl : low' ≤ low) :
    Memory.wfFrom low' m = true := by
  cases m with
  | nil => rfl
  | cons c m =>
    simp only [Memory.wfFrom, Bool.and_eq_true, decide_eq_true_eq] at h ⊢
    exact ⟨⟨by omega, h.1.2⟩, h.2⟩

/-- A write keeps the canonical form. -/
theorem Memory.write_wfFrom {m : List Host.Cell} {low : Nat} (a : Nat) (v : Byte) (h : Memory.wfFrom low m = true)
    (ha : low ≤ a) : Memory.wfFrom low (Memory.write m a v) = true := by
  induction m generalizing low with
  | nil =>
    by_cases hv : v = Memory.fill <;> simp [Memory.write, Memory.wfFrom, hv, ha]
  | cons c m ih =>
    obtain ⟨b, w⟩ := c
    simp only [Memory.wfFrom, Bool.and_eq_true, decide_eq_true_eq, bne_iff_ne] at h
    unfold Memory.write
    by_cases h1 : a < b
    · rw [if_pos h1]
      by_cases hv : v = Memory.fill
      · simp [hv, Memory.wfFrom, h]
      · have : a + 1 ≤ b := h1
        simp [hv, Memory.wfFrom, h, ha, this]
    · rw [if_neg h1]
      by_cases h2 : a = b
      · subst h2
        rw [if_pos rfl]
        by_cases hv : v = Memory.fill
        · simpa [hv] using Memory.wfFrom_mono h.2 (by omega)
        · simp [hv, Memory.wfFrom, h]
      · rw [if_neg h2]
        simp only [Memory.wfFrom, Bool.and_eq_true, decide_eq_true_eq, bne_iff_ne]
        exact ⟨h.1, ih h.2 (by omega)⟩

/-- A write keeps the canonical form. -/
theorem Memory.write_wf {m : List Host.Cell} (a : Nat) (v : Byte) (h : Memory.wf m = true) :
    Memory.wf (Memory.write m a v) = true := Memory.write_wfFrom a v h (Nat.zero_le a)

/-- A write inside the device keeps the content inside the device. -/
theorem Memory.write_within {m : List Host.Cell} {n a : Nat} (v : Byte) (h : Memory.within n m = true) (ha : a < n) :
    Memory.within n (Memory.write m a v) = true := by
  induction m with
  | nil => by_cases hv : v = Memory.fill <;> simp [Memory.write, Memory.within, hv, ha]
  | cons c m ih =>
    obtain ⟨b, w⟩ := c
    simp only [Memory.within, List.all_cons, Bool.and_eq_true, decide_eq_true_eq] at h ih ⊢
    unfold Memory.write
    by_cases h1 : a < b
    · by_cases hv : v = Memory.fill <;> simp [h1, hv, h.1, ha] <;> simpa using h.2
    · by_cases h2 : a = b
      · subst h2
        by_cases hv : v = Memory.fill <;> simp [hv, ha] <;> simpa using h.2
      · simp [h1, h2, h.1]
        simpa using ih h.2

/-- A write inside the device keeps its content well formed. -/
theorem Memory.write_ok {m : List Host.Cell} {n a : Nat} (v : Byte) (h : Memory.ok n m = true) (ha : a < n) :
    Memory.ok n (Memory.write m a v) = true := by
  simp only [Memory.ok, Bool.and_eq_true] at h ⊢
  exact ⟨Memory.write_wf a v h.1, Memory.write_within v h.2 ha⟩

/-- A read after a write, in a canonical content. -/
theorem Memory.read_write_from {m : List Host.Cell} {low : Nat} (h : Memory.wfFrom low m = true) (a b : Nat) (v : Byte) :
    Memory.read (Memory.write m a v) b = if b = a then v else Memory.read m b := by
  induction m generalizing low with
  | nil =>
    by_cases hv : v = Memory.fill
    · by_cases hb : b = a <;> simp [Memory.write, Memory.read, hv]
    · by_cases hb : b = a <;> simp [Memory.write, Memory.read, hv, hb]
  | cons c m ih =>
    obtain ⟨k, w⟩ := c
    simp only [Memory.wfFrom, Bool.and_eq_true, decide_eq_true_eq, bne_iff_ne] at h
    have hlow : ∀ x, x < k + 1 → Memory.read m x = Memory.fill := fun x hx => Memory.read_of_wfFrom h.2 hx
    unfold Memory.write
    by_cases h1 : a < k
    · rw [if_pos h1]
      by_cases hv : v = Memory.fill
      · rw [if_pos hv]
        by_cases hb : b = a
        · subst hb
          have : ¬ b = k := by omega
          simp [Memory.read, this, h1, hv]
        · simp [hb]
      · rw [if_neg hv]
        by_cases hb : b = a
        · subst hb; simp [Memory.read]
        · by_cases hba : b < a
          · have : ¬ b = k := by omega
            have : b < k := by omega
            simp [Memory.read, *]
          · simp [Memory.read, hb, hba]
    · rw [if_neg h1]
      by_cases h2 : a = k
      · subst h2
        rw [if_pos rfl]
        by_cases hv : v = Memory.fill
        · rw [if_pos hv]
          by_cases hb : b = a
          · subst hb; rw [if_pos rfl, hlow b (by omega), hv]
          · rw [if_neg hb]
            by_cases hba : b < a
            · rw [hlow b (by omega)]; simp [Memory.read, hb, hba]
            · simp [Memory.read, hb, hba]
        · rw [if_neg hv]
          by_cases hb : b = a <;> simp [Memory.read, hb]
      · rw [if_neg h2]
        by_cases hb : b = k
        · subst hb
          have : ¬ b = a := fun e => h2 e.symm
          simp [Memory.read, this]
        · by_cases hbk : b < k
          · have : ¬ b = a := by omega
            simp [Memory.read, hb, hbk, this]
          · simp [Memory.read, hb, hbk, ih h.2]

/-- A read after a write. -/
theorem Memory.read_write {m : List Host.Cell} (h : Memory.wf m = true) (a b : Nat) (v : Byte) :
    Memory.read (Memory.write m a v) b = if b = a then v else Memory.read m b := Memory.read_write_from h a b v

end Sys2Proof.Machine
end

