-- ==== Sys2Proof/Laws/State.lean ====
section
/-! SUPPORT. Field lemmas: what each update of a State leaves of each field, true by computation, so that no proof unfolds
a record update. -/

namespace Sys2Proof.Machine

@[simp] theorem mapCpu_cpu (s : State) (f : Cpu → Cpu) : (s.mapCpu f).cpu = f s.cpu := rfl
@[simp] theorem mapCpu_intr (s : State) (f : Cpu → Cpu) : (s.mapCpu f).intr = s.intr := rfl
@[simp] theorem mapCpu_clk (s : State) (f : Cpu → Cpu) : (s.mapCpu f).clk = s.clk := rfl
@[simp] theorem mapCpu_dma (s : State) (f : Cpu → Cpu) : (s.mapCpu f).dma = s.dma := rfl
@[simp] theorem mapCpu_alu (s : State) (f : Cpu → Cpu) : (s.mapCpu f).alu = s.alu := rfl
@[simp] theorem mapCpu_joy (s : State) (f : Cpu → Cpu) : (s.mapCpu f).joy = s.joy := rfl
@[simp] theorem mapCpu_io (s : State) (f : Cpu → Cpu) : (s.mapCpu f).io = s.io := rfl
@[simp] theorem mapCpu_bus (s : State) (f : Cpu → Cpu) : (s.mapCpu f).bus = s.bus := rfl
@[simp] theorem mapCpu_ext (s : State) (f : Cpu → Cpu) : (s.mapCpu f).ext = s.ext := rfl
@[simp] theorem mapCpu_sched (s : State) (f : Cpu → Cpu) : (s.mapCpu f).sched = s.sched := rfl
@[simp] theorem mapCpu_params (s : State) (f : Cpu → Cpu) : (s.mapCpu f).params = s.params := rfl
@[simp] theorem mapCpu_hostIn (s : State) (f : Cpu → Cpu) : (s.mapCpu f).hostIn = s.hostIn := rfl
@[simp] theorem mapCpu_ch (s : State) (f : Cpu → Cpu) (n : Fin 8) : (s.mapCpu f).ch n = s.ch n := rfl
@[simp] theorem mapCpu_mapCpu (s : State) (f g : Cpu → Cpu) : (s.mapCpu f).mapCpu g = s.mapCpu (fun c => g (f c)) := rfl

@[simp] theorem setMdr_cpu (v : Byte) (s : State) : (setMdr v s).cpu = s.cpu := rfl
@[simp] theorem setMdr_intr (v : Byte) (s : State) : (setMdr v s).intr = s.intr := rfl
@[simp] theorem setMdr_clk (v : Byte) (s : State) : (setMdr v s).clk = s.clk := rfl
@[simp] theorem setMdr_dma (v : Byte) (s : State) : (setMdr v s).dma = s.dma := rfl
@[simp] theorem setMdr_alu (v : Byte) (s : State) : (setMdr v s).alu = s.alu := rfl
@[simp] theorem setMdr_joy (v : Byte) (s : State) : (setMdr v s).joy = s.joy := rfl
@[simp] theorem setMdr_io (v : Byte) (s : State) : (setMdr v s).io = s.io := rfl
@[simp] theorem setMdr_params (v : Byte) (s : State) : (setMdr v s).params = s.params := rfl
@[simp] theorem setMdr_mdr (v : Byte) (s : State) : (setMdr v s).bus.mdr = v := rfl
@[simp] theorem setMdr_wram (v : Byte) (s : State) : (setMdr v s).bus.wram = s.bus.wram := rfl
@[simp] theorem setMdr_devices (v : Byte) (s : State) : (setMdr v s).bus.devices = s.bus.devices := rfl
@[simp] theorem setMdr_maps (v : Byte) (s : State) : (setMdr v s).bus.maps = s.bus.maps := rfl
@[simp] theorem setMdr_mmio (v : Byte) (s : State) : (setMdr v s).bus.mmio = s.bus.mmio := rfl
@[simp] theorem setMdr_resolve (v : Byte) (s : State) (a : Addr) : (setMdr v s).bus.resolve a = s.bus.resolve a := rfl
@[simp] theorem setMdr_byteAt (v : Byte) (s : State) (a : Addr) : (setMdr v s).bus.byteAt a = s.bus.byteAt a := rfl
@[simp] theorem setMdr_ch (v : Byte) (s : State) (n : Fin 8) : (setMdr v s).ch n = s.ch n := rfl

@[simp] theorem updCh_cpu (s : State) (n : Fin 8) (f : Channel → Channel) : (s.updCh n f).cpu = s.cpu := rfl
@[simp] theorem updCh_bus (s : State) (n : Fin 8) (f : Channel → Channel) : (s.updCh n f).bus = s.bus := rfl
@[simp] theorem updCh_intr (s : State) (n : Fin 8) (f : Channel → Channel) : (s.updCh n f).intr = s.intr := rfl
@[simp] theorem updCh_clk (s : State) (n : Fin 8) (f : Channel → Channel) : (s.updCh n f).clk = s.clk := rfl
@[simp] theorem updCh_alu (s : State) (n : Fin 8) (f : Channel → Channel) : (s.updCh n f).alu = s.alu := rfl
@[simp] theorem updCh_joy (s : State) (n : Fin 8) (f : Channel → Channel) : (s.updCh n f).joy = s.joy := rfl
@[simp] theorem updCh_io (s : State) (n : Fin 8) (f : Channel → Channel) : (s.updCh n f).io = s.io := rfl
@[simp] theorem updCh_params (s : State) (n : Fin 8) (f : Channel → Channel) : (s.updCh n f).params = s.params := rfl

/-- A channel update changes its own channel and no other. -/
theorem updCh_ch (s : State) (n k : Fin 8) (f : Channel → Channel) :
    (s.updCh n f).ch k = if k = n then f (s.ch n) else s.ch k := by
  unfold State.updCh State.ch
  by_cases h : k = n
  · subst h; simp
  · rw [if_neg h]
    have hv : ¬ n.val = k.val := fun e => h (Fin.ext e.symm)
    simp [Vector.getElem_set_ne, hv]

@[simp] theorem updCh_ch_self (s : State) (n : Fin 8) (f : Channel → Channel) : (s.updCh n f).ch n = f (s.ch n) := by
  simp [updCh_ch]

@[simp] theorem aluTick_cpu (s : State) : (aluTick s).cpu = s.cpu := rfl
@[simp] theorem aluTick_bus (s : State) : (aluTick s).bus = s.bus := rfl
@[simp] theorem aluTick_dma (s : State) : (aluTick s).dma = s.dma := rfl
@[simp] theorem aluTick_io (s : State) : (aluTick s).io = s.io := rfl
@[simp] theorem aluTick_params (s : State) : (aluTick s).params = s.params := rfl
@[simp] theorem updCh_active (s : State) (n : Fin 8) (f : Channel → Channel) : (s.updCh n f).dma.active = s.dma.active := rfl
@[simp] theorem updCh_running (s : State) (n : Fin 8) (f : Channel → Channel) : (s.updCh n f).dma.running = s.dma.running := rfl
@[simp] theorem updCh_maskI (s : State) (n : Fin 8) (f : Channel → Channel) : (s.updCh n f).dma.maskI = s.dma.maskI := rfl
@[simp] theorem updCh_clocks (s : State) (n : Fin 8) (f : Channel → Channel) : (s.updCh n f).dma.clocks = s.dma.clocks := rfl
@[simp] theorem updCh_index (s : State) (n : Fin 8) (f : Channel → Channel) : (s.updCh n f).dma.index = s.dma.index := rfl
@[simp] theorem updCh_channel (s : State) (n : Fin 8) (f : Channel → Channel) : (s.updCh n f).dma.channel = s.dma.channel := rfl

@[simp] theorem poll_cpu (s : State) : (poll s).cpu = s.cpu := rfl
@[simp] theorem poll_bus (s : State) : (poll s).bus = s.bus := rfl
@[simp] theorem poll_dma (s : State) : (poll s).dma = s.dma := rfl
@[simp] theorem poll_io (s : State) : (poll s).io = s.io := rfl
@[simp] theorem poll_alu (s : State) : (poll s).alu = s.alu := rfl
@[simp] theorem poll_params (s : State) : (poll s).params = s.params := rfl
@[simp] theorem advance_cpu (s : State) : (advance s).cpu = s.cpu := rfl
@[simp] theorem advance_bus (s : State) : (advance s).bus = s.bus := rfl
@[simp] theorem advance_dma (s : State) : (advance s).dma = s.dma := rfl
@[simp] theorem advance_alu (s : State) : (advance s).alu = s.alu := rfl
@[simp] theorem advance_io (s : State) : (advance s).io = s.io := rfl
@[simp] theorem advance_params (s : State) : (advance s).params = s.params := rfl
@[simp] theorem rasterCompare_cpu (s : State) : (rasterCompare s).cpu = s.cpu := rfl
@[simp] theorem rasterCompare_bus (s : State) : (rasterCompare s).bus = s.bus := rfl
@[simp] theorem rasterCompare_dma (s : State) : (rasterCompare s).dma = s.dma := rfl

/-- `mapChannels` is the map of the vector. -/
theorem mapChannels_get (f : Channel → Channel) (cs : Vector Channel 8) (n : Fin 8) : (mapChannels f cs)[n] = f cs[n] := by
  simp [mapChannels]

/-- `spreadBits` hands channel n bit n of the byte. -/
theorem spreadBits_get (f : Bool → Channel → Channel) (v : Byte) (cs : Vector Channel 8) (n : Fin 8) :
    (spreadBits f v cs)[n] = f (v.getLsbD n) cs[n] := by
  fin_cases n <;> simp [spreadBits, channelNumbers]

@[simp] theorem setVector_cpu (v : Word) (s : State) : (setVector v s).cpu = s.cpu := rfl
@[simp] theorem setVector_clk (v : Word) (s : State) : (setVector v s).clk = s.clk := rfl
@[simp] theorem setVector_dma (v : Word) (s : State) : (setVector v s).dma = s.dma := rfl
@[simp] theorem setVector_alu (v : Word) (s : State) : (setVector v s).alu = s.alu := rfl
@[simp] theorem setVector_joy (v : Word) (s : State) : (setVector v s).joy = s.joy := rfl
@[simp] theorem setVector_io (v : Word) (s : State) : (setVector v s).io = s.io := rfl
@[simp] theorem setVector_bus (v : Word) (s : State) : (setVector v s).bus = s.bus := rfl
@[simp] theorem setVector_ext (v : Word) (s : State) : (setVector v s).ext = s.ext := rfl
@[simp] theorem setVector_sched (v : Word) (s : State) : (setVector v s).sched = s.sched := rfl
@[simp] theorem setVector_params (v : Word) (s : State) : (setVector v s).params = s.params := rfl
@[simp] theorem setVector_hostIn (v : Word) (s : State) : (setVector v s).hostIn = s.hostIn := rfl
@[simp] theorem setVector_interruptVector (v : Word) (s : State) : (setVector v s).intr.interruptVector = v := rfl
@[simp] theorem setVector_nmi (v : Word) (s : State) : (setVector v s).intr.nmi = s.intr.nmi := rfl
@[simp] theorem setVector_irq (v : Word) (s : State) : (setVector v s).intr.irq = s.intr.irq := rfl
@[simp] theorem setVector_ch (v : Word) (s : State) (n : Fin 8) : (setVector v s).ch n = s.ch n := rfl

@[simp] theorem startQuantum_cpu (s : State) : (startQuantum s).cpu = s.cpu := rfl
@[simp] theorem startQuantum_intr (s : State) : (startQuantum s).intr = s.intr := rfl
@[simp] theorem startQuantum_dma (s : State) : (startQuantum s).dma = s.dma := rfl
@[simp] theorem startQuantum_alu (s : State) : (startQuantum s).alu = s.alu := rfl
@[simp] theorem startQuantum_joy (s : State) : (startQuantum s).joy = s.joy := rfl
@[simp] theorem startQuantum_io (s : State) : (startQuantum s).io = s.io := rfl
@[simp] theorem startQuantum_bus (s : State) : (startQuantum s).bus = s.bus := rfl
@[simp] theorem startQuantum_ext (s : State) : (startQuantum s).ext = s.ext := rfl
@[simp] theorem startQuantum_sched (s : State) : (startQuantum s).sched = s.sched := rfl
@[simp] theorem startQuantum_params (s : State) : (startQuantum s).params = s.params := rfl
@[simp] theorem startQuantum_hostIn (s : State) : (startQuantum s).hostIn = s.hostIn := rfl
@[simp] theorem startQuantum_clockCount (s : State) : (startQuantum s).clk.clockCount = s.clk.clockCount := rfl
@[simp] theorem startQuantum_quantumOver (s : State) : (startQuantum s).clk.quantumOver = false := rfl

@[simp] theorem setA_p (c : Cpu) (w : Width) (v : Word) : (c.setA w v).p = c.p := rfl
@[simp] theorem setA_pc (c : Cpu) (w : Width) (v : Word) : (c.setA w v).pc = c.pc := rfl
@[simp] theorem setA_e (c : Cpu) (w : Width) (v : Word) : (c.setA w v).e = c.e := rfl
@[simp] theorem setX_p (c : Cpu) (v : Word) : (c.setX v).p = c.p := rfl
@[simp] theorem setX_e (c : Cpu) (v : Word) : (c.setX v).e = c.e := rfl
@[simp] theorem setY_p (c : Cpu) (v : Word) : (c.setY v).p = c.p := rfl
@[simp] theorem setY_e (c : Cpu) (v : Word) : (c.setY v).e = c.e := rfl
@[simp] theorem setS_p (c : Cpu) (v : Word) : (c.setS v).p = c.p := rfl
@[simp] theorem setS_e (c : Cpu) (v : Word) : (c.setS v).e = c.e := rfl
@[simp] theorem setPc_pc (c : Cpu) (t : Word) : (c.setPc t).pc = t := rfl
@[simp] theorem setPc_p (c : Cpu) (t : Word) : (c.setPc t).p = c.p := rfl

end Sys2Proof.Machine
end

