-- ==== Sys2Proof/Laws/Stable.lean ====
section
/-! SUPPORT. One induction for every property that time, the DMA controller and bus accesses cannot break: a predicate that
each primitive event keeps is kept by every composite operation, up to a whole CPU cycle. -/

namespace Sys2Proof.Machine

/-- P is kept by every event that can happen inside a CPU cycle. -/
structure Stable (P : State → Prop) : Prop where
  clockBare : ∀ s, P s → P (clockBare s)
  tick : ∀ s, P s → P (aluTick s)
  poll : ∀ s, P s → P (poll s)
  dma : ∀ s d, P s → P { s with dma := d }
  read : ∀ a s, P s → P (busRead a s).2
  write : ∀ a v s, P s → P (busWrite a v s)
  mdr : ∀ v s, P s → P (setMdr v s)

/-- A predicate that f keeps is kept by n rounds of f. -/
theorem iterate_keeps {P : State → Prop} {f : State → State} (h : ∀ s, P s → P (f s)) (n : Nat) (s : State) (hs : P s) :
    P (iterate f n s) := by
  induction n generalizing s with
  | zero => exact hs
  | succ n ih => exact ih _ (h _ hs)

/-- A predicate that every round of a fold keeps is kept by the fold. -/
theorem foldl_keeps {α : Type} {P : State → Prop} {f : State → α → State} (h : ∀ s n, P s → P (f s n)) (l : List α)
    (s : State) (hs : P s) : P (l.foldl f s) := by
  induction l generalizing s with
  | nil => exact hs
  | cons a l ih => exact ih _ (h _ a hs)

/-- The engine's fields of a state after the first half of `dmaByte`. -/
def dmaStart (n : Fin 8) (s : State) : Dma :=
  { (s.updCh n (fun c => { c with a1t := c.nextA1t })).dma with index := s.dma.index + 1 }

/-- `dmaByte` with its pairs opened. -/
theorem dmaByte_eq (n : Fin 8) (s : State) :
    dmaByte n s =
      (transfer (s.ch n).toA ((s.ch n).bAddr s.dma.index) (long (s.ch n).a1b (s.ch n).a1t)
        { s.updCh n (fun c => { c with a1t := c.nextA1t }) with dma := dmaStart n s }).updCh n
          (fun c => { c with das := c.das - 1 }) := rfl

namespace Stable
variable {P : State → Prop} (h : Stable P)
include h

theorem clock (s : State) (hs : P s) : P (clock s) := by
  unfold Machine.clock
  split
  · exact iterate_keeps h.clockBare _ _ (h.clockBare _ hs)
  · exact h.clockBare _ hs

theorem spend (k : Nat) (s : State) (hs : P s) : P (spend k s) := iterate_keeps h.clock k s hs

theorem updCh (s : State) (n : Fin 8) (f : Channel → Channel) (hs : P s) : P (s.updCh n f) := h.dma s _ hs

theorem owe (k : Nat) (s : State) (hs : P s) : P (owe k s) := h.dma s _ hs

theorem pay (k : Nat) (s : State) (hs : P s) : P (pay k s) := h.dma _ _ (h.spend k s hs)

theorem dmaUnitEvent (s : State) (hs : P s) : P (dmaUnitEvent s) := h.poll _ (h.tick _ hs)

theorem spendOverhead (k : Nat) (s : State) (hs : P s) : P (spendOverhead k s) :=
  h.spend _ _ (iterate_keeps (fun s hs => h.dmaUnitEvent _ (h.spend _ s hs)) _ _ hs)

theorem dmaRead (a : Addr) (s : State) (hs : P s) : P (dmaRead a s).2 := by
  unfold Machine.dmaRead
  split
  · exact h.read a s hs
  · exact hs

theorem dmaWrite (a : Addr) (v : Byte) (s : State) (hs : P s) : P (dmaWrite a v s) := by
  unfold Machine.dmaWrite
  split
  · exact h.write a v s hs
  · exact hs

theorem payUnit (k : Nat) (s : State) (hs : P s) : P (payUnit k s) := h.dmaUnitEvent _ (h.pay k s hs)

theorem conflictByte (toA : Bool) (a : Addr) (s : State) (hs : P s) : P (conflictByte toA a s) := by
  cases toA
  · exact h.payUnit 8 s hs
  · exact h.mdr _ _ (h.dmaWrite _ _ _ (h.payUnit 8 s hs))

theorem byteToA (b : Byte) (a : Addr) (s : State) (hs : P s) : P (byteToA b a s) := by
  unfold Machine.byteToA
  exact h.dmaWrite _ _ _ (h.payUnit _ _ (h.read _ _ (h.pay _ _ hs)))

theorem byteToB (b : Byte) (a : Addr) (s : State) (hs : P s) : P (byteToB b a s) := by
  unfold Machine.byteToB
  exact h.write _ _ _ (h.payUnit _ _ (h.dmaRead _ _ (h.pay _ _ hs)))

theorem transfer (toA : Bool) (b : Byte) (a : Addr) (s : State) (hs : P s) : P (transfer toA b a s) := by
  unfold Machine.transfer
  have h1 := h.owe Config.dmaByteClocks s hs
  simp only
  split
  · exact h.conflictByte toA a _ h1
  · split
    · exact h.byteToA b a _ h1
    · exact h.byteToB b a _ h1

theorem tableByte (a : Addr) (s : State) (hs : P s) : P (tableByte a s).2 :=
  h.dmaRead _ _ (h.payUnit 8 _ (h.owe _ s hs))

theorem nextTableByte (n : Fin 8) (s : State) (hs : P s) : P (nextTableByte n s).2 :=
  h.tableByte _ _ (h.updCh s n (fun c => { c with a2a := c.a2a + 1 }) hs)

theorem reloadPointer (n : Fin 8) (s : State) (hs : P s) : P (reloadPointer n s) := by
  unfold Machine.reloadPointer
  exact h.updCh _ _ _ (h.nextTableByte n _ (h.nextTableByte n s hs))

theorem hdmaReload (n : Fin 8) (s : State) (hs : P s) : P (hdmaReload n s) := by
  unfold Machine.hdmaReload
  split
  · exact hs
  · have h1 := h.nextTableByte n s hs
    simp only
    split
    · exact h.reloadPointer n _ (h.updCh _ _ _ h1)
    · exact h.updCh _ _ _ h1

theorem hdmaInitChannel (s : State) (n : Fin 8) (hs : P s) : P (hdmaInitChannel s n) := by
  unfold Machine.hdmaInitChannel
  split
  · exact h.hdmaReload n _ (h.updCh _ _ _ hs)
  · exact hs

theorem hdmaInit (s : State) (hs : P s) : P (hdmaInit s) :=
  foldl_keeps h.hdmaInitChannel _ _ (h.spendOverhead _ s hs)

theorem hdmaUnitByte (n : Fin 8) (s : State) (i : Nat) (hs : P s) : P (hdmaUnitByte n s i) := by
  unfold Machine.hdmaUnitByte
  refine h.transfer _ _ _ _ ?_
  split
  · exact h.updCh s n (fun c => { c with das := c.das + 1 }) hs
  · exact h.updCh s n (fun c => { c with a2a := c.a2a + 1 }) hs

theorem hdmaTransferChannel (s : State) (n : Fin 8) (hs : P s) : P (hdmaTransferChannel s n) := by
  unfold Machine.hdmaTransferChannel
  split
  · simp only
    split
    · exact foldl_keeps (h.hdmaUnitByte n) _ _ (h.updCh _ _ _ hs)
    · exact h.updCh _ _ _ hs
  · exact hs

theorem hdmaCountChannel (s : State) (n : Fin 8) (hs : P s) : P (hdmaCountChannel s n) := by
  unfold Machine.hdmaCountChannel
  split
  · exact h.hdmaReload n _ (h.updCh _ _ _ hs)
  · exact hs

theorem hdmaRun (s : State) (hs : P s) : P (hdmaRun s) :=
  foldl_keeps h.hdmaCountChannel _ _ (foldl_keeps h.hdmaTransferChannel _ _ (h.spendOverhead _ s hs))

theorem serviceHdma (s : State) (hs : P s) : P (serviceHdma s) := by
  unfold Machine.serviceHdma
  split
  · simp only
    split
    · exact h.hdmaInit _ (h.dma _ _ hs)
    · exact h.hdmaRun _ (h.dma _ _ hs)
  · exact hs

theorem dmaByte (n : Fin 8) (s : State) (hs : P s) : P (dmaByte n s) := by
  rw [dmaByte_eq]
  exact h.updCh _ _ _ (h.transfer _ _ _ _ (h.dma _ _ (h.updCh _ _ _ hs)))

theorem dmaBytes (n : Fin 8) (k : Nat) (s : State) (hs : P s) : P (dmaBytes n k s) := by
  induction k generalizing s with
  | zero => exact hs
  | succ k ih =>
    have h1 := h.serviceHdma _ (h.dmaByte n s hs)
    unfold Machine.dmaBytes
    simp only
    split
    · split
      · exact h1
      · exact ih _ h1
    · exact hs

theorem dmaOverhead (k : Nat) (s : State) (hs : P s) : P (dmaOverhead k s) := h.serviceHdma _ (h.spendOverhead k s hs)

theorem dmaChannelRest (n : Fin 8) (s : State) (hs : P s) : P (dmaChannelRest n s) :=
  h.updCh _ _ _ (h.dmaBytes n _ _ hs)

theorem dmaStartChannel (n : Fin 8) (s : State) (hs : P s) : P (dmaStartChannel n s) := h.dma _ _ (h.dmaOverhead _ s hs)

theorem dmaRunChannel (s : State) (n : Fin 8) (hs : P s) : P (dmaRunChannel s n) := by
  unfold Machine.dmaRunChannel
  split
  · exact h.dmaChannelRest n _ (h.dmaStartChannel n s hs)
  · exact hs

theorem dmaBegin (s : State) (hs : P s) : P (dmaBegin s) := h.dmaOverhead _ _ (h.dma s _ hs)

theorem dmaEnd (s : State) (hs : P s) : P (dmaEnd s) := h.dma s _ hs

theorem dmaRun (s : State) (hs : P s) : P (dmaRun s) :=
  h.dmaEnd _ (foldl_keeps h.dmaRunChannel _ _ (h.dmaBegin s hs))

theorem startByte (n : Fin 8) (s : State) (hs : P s) : P (startByte n s) := h.owe _ _ (h.dma _ _ (h.updCh s _ _ hs))

theorem readHalf (toA : Bool) (b : Byte) (a : Addr) (s : State) (hs : P s) : P (readHalf toA b a s) := by
  unfold Machine.readHalf
  split
  · exact hs
  · split
    · exact h.read _ s hs
    · exact h.dmaRead a s hs

theorem writeHalf (toA : Bool) (b : Byte) (a : Addr) (s : State) (hs : P s) : P (writeHalf toA b a s) := by
  unfold Machine.writeHalf
  split
  · split
    · exact h.mdr _ _ (h.dmaWrite _ _ s hs)
    · exact hs
  · split
    · exact h.dmaWrite _ _ s hs
    · exact h.write _ _ s hs

theorem endByte (n : Fin 8) (s : State) (hs : P s) : P (endByte n s) := by
  have h1 := h.serviceHdma _ (h.updCh _ n (fun c => { c with das := c.das - 1 })
    (h.writeHalf (s.ch n).toA (bInProgress n s) (aInProgress n s) _ (h.dmaUnitEvent s hs)))
  unfold Machine.endByte
  simp only
  split
  · exact h.updCh _ _ _ h1
  · exact h1

theorem byteClock (n : Fin 8) (s : State) (hs : P s) : P (byteClock n s) := by
  have h1 := h.pay 1 s hs
  unfold Machine.byteClock
  simp only
  split
  · exact h.readHalf _ _ _ _ h1
  · split
    · exact h.endByte n _ h1
    · exact h1

theorem dmaResume (s : State) (hs : P s) : P (dmaResume s) :=
  h.dmaEnd _ (foldl_keeps h.dmaRunChannel _ _ (h.dmaChannelRest _ _ (iterate_keeps (h.byteClock _) _ s hs)))

theorem dmaSelect (l : List (Fin 8)) (s : State) (hs : P s) : P (dmaSelect l s) := by
  unfold Machine.dmaSelect
  split
  · exact h.dmaStartChannel _ s hs
  · exact h.dma _ _ (h.dmaEnd s hs)

theorem serviceDma (s : State) (hs : P s) : P (serviceDma s) := by
  unfold Machine.serviceDma
  split
  · exact h.dmaRun _ hs
  · exact hs

theorem cycleEdge (s : State) (hs : P s) : P (cycleEdge s) := by
  unfold Machine.cycleEdge
  split
  · exact h.dma _ _ hs
  · exact hs

theorem runActivation (s : State) (hs : P s) : P (runActivation s) := by
  unfold Machine.runActivation
  simp only
  split
  · exact h.dma _ _ (h.dmaResume s hs)
  · exact h.dma _ _ (h.serviceDma _ (h.serviceHdma s hs))

theorem startCycle (s : State) (hs : P s) : P (startCycle s) := by
  unfold Machine.startCycle
  split
  · exact h.runActivation s hs
  · exact hs

theorem dmaClock (s : State) (hs : P s) : P (dmaClock s) := by
  have h1 := h.serviceHdma s hs
  unfold Machine.dmaClock
  simp only
  split
  · exact hs
  · split
    · exact h.byteClock _ s hs
    · split
      · split
        · exact h.byteClock _ _ (h.startByte _ s hs)
        · exact h.dmaSelect _ s hs
      · split
        · exact h.dmaSelect _ _ (h.dmaBegin _ h1)
        · exact h.dma _ _ h1

theorem endCycle (b : Bool) (s : State) (hs : P s) : P (endCycle b s) := by
  cases b
  · exact h.cycleEdge _ (h.poll _ hs)
  · exact h.cycleEdge _ (h.poll _ (h.tick _ hs))

theorem read8 (a : Addr) (s : State) (hs : P s) : P (read8 a s).2 :=
  h.endCycle _ _ (h.spend _ _ (h.read a (Machine.startCycle s) (h.startCycle s hs)))

theorem write8 (a : Addr) (v : Byte) (s : State) (hs : P s) : P (write8 a v s) :=
  h.endCycle _ _ (h.spend _ _ (h.write a v (Machine.startCycle s) (h.startCycle s hs)))

theorem idle (s : State) (hs : P s) : P (idle s) := by
  unfold Machine.idle
  exact h.endCycle _ _ (h.spend _ _ (h.startCycle s hs))

theorem idles (n : Nat) (s : State) (hs : P s) : P (idles n s) := iterate_keeps h.idle n s hs

end Stable

end Sys2Proof.Machine
end

