-- ==== Sys2Proof/Laws/Frames.lean ====
section
/-! SUPPORT. What a CPU cycle, with all the time and DMA in it, never changes: the CPU registers (R441), the parameters, the
host's input and the memory map; and that it keeps every memory content well formed. -/

namespace Sys2Proof.Machine

/-! ### Primitive events -/

/-- The parts of the state that the passing of time alone does not write. -/
structure Timeless (s s' : State) : Prop where
  cpu : s'.cpu = s.cpu
  bus : s'.bus = s.bus
  params : s'.params = s.params
  hostIn : s'.hostIn = s.hostIn
  io : s'.io = s.io
  alu : s'.alu = s.alu
  ext : s'.ext = s.ext
  sched : s'.sched = s.sched

theorem Timeless.refl (s : State) : Timeless s s := ⟨rfl, rfl, rfl, rfl, rfl, rfl, rfl, rfl⟩

theorem Timeless.trans {s t u : State} (h : Timeless s t) (k : Timeless t u) : Timeless s u :=
  ⟨k.cpu.trans h.cpu, k.bus.trans h.bus, k.params.trans h.params, k.hostIn.trans h.hostIn, k.io.trans h.io,
   k.alu.trans h.alu, k.ext.trans h.ext, k.sched.trans h.sched⟩

theorem eventRefresh_timeless (s : State) : Timeless s (eventRefresh s) := by
  unfold eventRefresh; split <;> exact ⟨rfl, rfl, rfl, rfl, rfl, rfl, rfl, rfl⟩
theorem eventHdmaInit_timeless (s : State) : Timeless s (eventHdmaInit s) := by
  unfold eventHdmaInit; split <;> exact ⟨rfl, rfl, rfl, rfl, rfl, rfl, rfl, rfl⟩
theorem eventHdmaRun_timeless (s : State) : Timeless s (eventHdmaRun s) := by
  unfold eventHdmaRun; split <;> exact ⟨rfl, rfl, rfl, rfl, rfl, rfl, rfl, rfl⟩
theorem eventNmi_timeless (s : State) : Timeless s (eventNmi s) := by
  unfold eventNmi; split <;> exact ⟨rfl, rfl, rfl, rfl, rfl, rfl, rfl, rfl⟩
theorem eventAutojoy_timeless (s : State) : Timeless s (eventAutojoy s) := by
  unfold eventAutojoy; split <;> exact ⟨rfl, rfl, rfl, rfl, rfl, rfl, rfl, rfl⟩
theorem eventFrameStart_timeless (s : State) : Timeless s (eventFrameStart s) := by
  unfold eventFrameStart; split <;> exact ⟨rfl, rfl, rfl, rfl, rfl, rfl, rfl, rfl⟩

theorem lineEvents_timeless (s : State) : Timeless s (lineEvents s) :=
  (eventRefresh_timeless s).trans <| (eventHdmaInit_timeless _).trans <| (eventHdmaRun_timeless _).trans <|
    (eventNmi_timeless _).trans <| (eventAutojoy_timeless _).trans (eventFrameStart_timeless _)

theorem clockBare_timeless (s : State) : Timeless s (clockBare s) := by
  have h1 : Timeless s (advance s) := ⟨rfl, rfl, rfl, rfl, rfl, rfl, rfl, rfl⟩
  have h2 : ∀ u, Timeless u (rasterCompare u) := fun u => ⟨rfl, rfl, rfl, rfl, rfl, rfl, rfl, rfl⟩
  exact h1.trans ((lineEvents_timeless _).trans (h2 _))

theorem iterate_timeless {f : State → State} (h : ∀ s, Timeless s (f s)) (n : Nat) (s : State) :
    Timeless s (iterate f n s) :=
  iterate_keeps (P := fun u => Timeless s u) (fun u hu => hu.trans (h u)) n s (Timeless.refl s)

theorem clock_timeless (s : State) : Timeless s (clock s) := by
  unfold Machine.clock
  split
  · exact (clockBare_timeless s).trans (iterate_timeless clockBare_timeless _ _)
  · exact clockBare_timeless s

/-- Time alone moves no byte and writes no CPU register. -/
theorem spend_timeless (k : Nat) (s : State) : Timeless s (spend k s) := iterate_timeless clock_timeless k s

@[simp] theorem spend_bus (k : Nat) (s : State) : (spend k s).bus = s.bus := (spend_timeless k s).bus
@[simp] theorem spend_params (k : Nat) (s : State) : (spend k s).params = s.params := (spend_timeless k s).params
@[simp] theorem spend_io (k : Nat) (s : State) : (spend k s).io = s.io := (spend_timeless k s).io
@[simp] theorem spend_alu (k : Nat) (s : State) : (spend k s).alu = s.alu := (spend_timeless k s).alu

/-- The parts of the state that neither time nor a bus access writes. -/
def Static (s s' : State) : Prop :=
  s'.cpu = s.cpu ∧ s'.params = s.params ∧ s'.hostIn = s.hostIn

theorem Static.trans {s t u : State} (h : Static s t) (k : Static t u) : Static s u :=
  ⟨k.1.trans h.1, k.2.1.trans h.2.1, k.2.2.trans h.2.2⟩

theorem Timeless.static {s s' : State} (h : Timeless s s') : Static s s' := ⟨h.cpu, h.params, h.hostIn⟩

theorem synchronize_static (g : AgentId) (s : State) : Static s (synchronize g s) := by
  cases g <;> exact ⟨rfl, rfl, rfl⟩

theorem readCpuReg_static (o : Nat) (s : State) : Static s (readCpuReg o s).2 := by
  unfold readCpuReg
  split
  · exact ⟨rfl, rfl, rfl⟩
  · split <;> exact ⟨rfl, rfl, rfl⟩

theorem writeWrio_static (v : Byte) (s : State) : Static s (writeWrio v s) := by
  unfold writeWrio
  simp only
  split <;> exact ⟨rfl, rfl, rfl⟩

theorem writeCpuReg_static (o : Nat) (v : Byte) (s : State) : Static s (writeCpuReg o v s) := by
  unfold writeCpuReg
  split
  · exact ⟨rfl, rfl, rfl⟩
  · split
    all_goals first | exact writeWrio_static v s | exact ⟨rfl, rfl, rfl⟩

theorem mmioRead_static (a : Addr) (s : State) : Static s (mmioRead a s).2 := by
  unfold mmioRead
  split
  · exact ⟨rfl, rfl, rfl⟩
  · exact readCpuReg_static _ s
  · exact synchronize_static _ s

theorem mmioWrite_static (a : Addr) (v : Byte) (s : State) : Static s (mmioWrite a v s) := by
  unfold mmioWrite
  split
  · exact ⟨rfl, rfl, rfl⟩
  · exact writeCpuReg_static _ v s
  · exact synchronize_static _ s

theorem busRead_static (a : Addr) (s : State) : Static s (busRead a s).2 := by
  unfold busRead
  split
  · exact mmioRead_static a s
  · exact ⟨rfl, rfl, rfl⟩

theorem busWrite_static (a : Addr) (v : Byte) (s : State) : Static s (busWrite a v s) := by
  unfold busWrite
  split
  · exact mmioWrite_static a v s
  · exact ⟨rfl, rfl, rfl⟩

/-- Registers, parameters and host input are out of reach of a CPU cycle's events. -/
theorem static_stable (s0 : State) : Stable (fun s => Static s0 s) where
  clockBare s h := h.trans (clockBare_timeless s).static
  tick _ h := h.trans ⟨rfl, rfl, rfl⟩
  poll _ h := h.trans ⟨rfl, rfl, rfl⟩
  dma _ _ h := h.trans ⟨rfl, rfl, rfl⟩
  read a s h := h.trans (busRead_static a s)
  write a v s h := h.trans (busWrite_static a v s)
  mdr _ _ h := h.trans ⟨rfl, rfl, rfl⟩

theorem Static.refl (s : State) : Static s s := ⟨rfl, rfl, rfl⟩

/-! ### The CPU registers -/

@[simp] theorem busRead_cpu (a : Addr) (s : State) : (busRead a s).2.cpu = s.cpu := (busRead_static a s).1
@[simp] theorem busWrite_cpu (a : Addr) (v : Byte) (s : State) : (busWrite a v s).cpu = s.cpu := (busWrite_static a v s).1
@[simp] theorem spend_cpu (k : Nat) (s : State) : (spend k s).cpu = s.cpu :=
  ((static_stable s).spend k s (Static.refl s)).1
@[simp] theorem cycleEdge_cpu (s : State) : (cycleEdge s).cpu = s.cpu :=
  ((static_stable s).cycleEdge s (Static.refl s)).1
@[simp] theorem startCycle_cpu (s : State) : (startCycle s).cpu = s.cpu :=
  ((static_stable s).startCycle s (Static.refl s)).1
@[simp] theorem dmaClock_cpu (s : State) : (dmaClock s).cpu = s.cpu := ((static_stable s).dmaClock s (Static.refl s)).1
@[simp] theorem read8_cpu (a : Addr) (s : State) : (read8 a s).2.cpu = s.cpu :=
  ((static_stable s).read8 a s (Static.refl s)).1
@[simp] theorem write8_cpu (a : Addr) (v : Byte) (s : State) : (write8 a v s).cpu = s.cpu :=
  ((static_stable s).write8 a v s (Static.refl s)).1
@[simp] theorem idle_cpu (s : State) : (idle s).cpu = s.cpu := ((static_stable s).idle s (Static.refl s)).1
@[simp] theorem idles_cpu (n : Nat) (s : State) : (idles n s).cpu = s.cpu :=
  ((static_stable s).idles n s (Static.refl s)).1
@[simp] theorem read8_params (a : Addr) (s : State) : (read8 a s).2.params = s.params :=
  ((static_stable s).read8 a s (Static.refl s)).2.1
@[simp] theorem write8_params (a : Addr) (v : Byte) (s : State) : (write8 a v s).params = s.params :=
  ((static_stable s).write8 a v s (Static.refl s)).2.1
@[simp] theorem idle_params (s : State) : (idle s).params = s.params := ((static_stable s).idle s (Static.refl s)).2.1
@[simp] theorem read8_hostIn (a : Addr) (s : State) : (read8 a s).2.hostIn = s.hostIn :=
  ((static_stable s).read8 a s (Static.refl s)).2.2
@[simp] theorem write8_hostIn (a : Addr) (v : Byte) (s : State) : (write8 a v s).hostIn = s.hostIn :=
  ((static_stable s).write8 a v s (Static.refl s)).2.2
@[simp] theorem idle_hostIn (s : State) : (idle s).hostIn = s.hostIn := ((static_stable s).idle s (Static.refl s)).2.2

/-! ### Named operations of the CPU, through the registers they change -/

@[simp] theorem fetch8_cpu (s : State) : (fetch8 s).2.cpu = { s.cpu with pc := s.cpu.pc + 1 } := by simp [fetch8]
@[simp] theorem push8_cpu (v : Byte) (s : State) : (push8 v s).cpu = s.cpu.setS (s.cpu.s - 1) := by simp [push8]
@[simp] theorem pull8_cpu (s : State) : (pull8 s).2.cpu = s.cpu.setS (s.cpu.s + 1) := by simp [pull8]
@[simp] theorem push8Full_cpu (v : Byte) (s : State) : (push8Full v s).cpu = { s.cpu with s := s.cpu.s - 1 } := by
  simp [push8Full]
@[simp] theorem pull8Full_cpu (s : State) : (pull8Full s).2.cpu = { s.cpu with s := s.cpu.s + 1 } := by simp [pull8Full]
@[simp] theorem readVector_cpu (b : Byte) (o : Word) (s : State) : (readVector b o s).2.cpu = s.cpu := by
  simp [readVector]
@[simp] theorem dCycle_cpu (s : State) : (dCycle s).cpu = s.cpu := by
  unfold dCycle; split <;> simp
@[simp] theorem pCycle_cpu (acc : Access) (b i : Word) (s : State) : (pCycle acc b i s).cpu = s.cpu := by
  unfold pCycle; split <;> simp
@[simp] theorem readPointer16_cpu (ea : EA) (s : State) : (readPointer16 ea s).2.cpu = s.cpu := by simp [readPointer16]
@[simp] theorem readPointer24_cpu (ea : EA) (s : State) : (readPointer24 ea s).2.cpu = s.cpu := by simp [readPointer24]
@[simp] theorem effAddr_cpu (acc : Access) (m : Mode) (s : State) : (effAddr acc m s).2.cpu = s.cpu := by
  cases m <;> simp [effAddr]
@[simp] theorem readEA_cpu (w : Width) (ea : EA) (s : State) : (readEA w ea s).2.cpu = s.cpu := by
  cases w <;> simp [readEA]
@[simp] theorem writeEA_cpu (w : Width) (ea : EA) (v : Word) (s : State) : (writeEA w ea v s).cpu = s.cpu := by
  cases w <;> simp [writeEA]
@[simp] theorem writeEARmw_cpu (w : Width) (ea : EA) (v : Word) (s : State) : (writeEARmw w ea v s).cpu = s.cpu := by
  cases w <;> simp [writeEARmw]
@[simp] theorem eaRead_cpu (w : Width) (m : Mode) (s : State) : (eaRead w m s).2.cpu = s.cpu := by
  cases m <;> simp [eaRead]
@[simp] theorem storeOperand_cpu (w : Width) (m : Mode) (v : Word) (s : State) : (storeOperand w m v s).cpu = s.cpu := by
  simp [storeOperand]

/-- `readOperand` changes the registers by its operation and by nothing else. -/
@[simp] theorem readOperand_cpu (w : Width) (m : Mode) (op : Width → Word → Cpu → Cpu) (s : State) :
    (readOperand w m op s).cpu = op w (eaRead w m s).1 s.cpu := by simp [readOperand]

/-- `implied` changes the registers by its operation and by nothing else. -/
@[simp] theorem implied_cpu (n : Nat) (f : Cpu → Cpu) (s : State) : (implied n f s).cpu = f s.cpu := by simp [implied]

/-- The old value a read-modify-write instruction reads. -/
def rmwOld (m : Mode) (s : State) : Word :=
  (readEA s.cpu.mw (effAddr .rmw m s).1 (effAddr .rmw m s).2).1

/-- `modifyOperand` changes no register but P. -/
@[simp] theorem modifyOperand_cpu (m : Mode) (op : Width → Word → Word → Status → Rmw) (s : State) :
    (modifyOperand m op s).cpu = { s.cpu with p := (op s.cpu.mw s.cpu.a (rmwOld m s) s.cpu.p).p } := by
  simp [modifyOperand, rmwOld]

@[simp] theorem branchTo_cpu (t : Word) (s : State) : (branchTo t s).cpu = { s.cpu with pc := t } := by
  unfold branchTo; simp only; split <;> simp [Cpu.setPc]

end Sys2Proof.Machine
end

