-- ==== Sys2Proof/Laws/Quiet.lean ====
section
/-! SUPPORT. A CPU cycle while the DMA controller is at rest: it stays at rest through every access but a register write, a
read moves no byte of memory, and a write to an address that is no register changes at most that byte. -/

namespace Sys2Proof.Machine

/-! ### The engine at rest -/

/-- `any` is false when no channel satisfies the condition. -/
theorem any_eq_false {d : Dma} {f : Channel → Bool} (h : ∀ n : Fin 8, f d.channels[n] = false) : d.any f = false := by
  unfold Dma.any
  rw [List.any_eq_false]
  intro c hc
  obtain ⟨i, hi, rfl⟩ := List.getElem_of_mem hc
  have hi8 : i < 8 := by simpa using hi
  have := h ⟨i, hi8⟩
  simp at this ⊢
  exact this

theorem quiet_of_dma {s t : State} (h : Quiet s) (hd : t.dma = s.dma) : Quiet t := by
  obtain ⟨h1, h2, h3, h4⟩ := h
  refine ⟨by rw [hd]; exact h1, by rw [hd]; exact h2, by rw [hd]; exact h3, fun n => ?_⟩
  have := h4 n
  unfold State.ch at this ⊢
  rw [hd]; exact this

theorem quiet_eventHdmaInit {s : State} (h : Quiet s) : Quiet (eventHdmaInit s) := by
  unfold eventHdmaInit
  split
  · obtain ⟨h1, h2, h3, h4⟩ := h
    have hc : ∀ n : Fin 8, (mapChannels Channel.frameStart s.dma.channels)[n].hdmaEnabled = false := fun n => by
      rw [mapChannels_get]; exact h4 n
    simp only
    rw [any_eq_false (d := { s.dma with channels := mapChannels Channel.frameStart s.dma.channels }) hc]
    exact ⟨h1, h2, h3, hc⟩
  · exact h

theorem quiet_eventHdmaRun {s : State} (h : Quiet s) : Quiet (eventHdmaRun s) := by
  unfold eventHdmaRun
  split
  · have hc : ∀ n : Fin 8, Channel.hdmaActive s.dma.channels[n] = false := fun n => by
      have := h.2.2.2 n
      unfold State.ch at this
      show (s.dma.channels[n].hdmaEnabled && _) = false
      rw [this]; rfl
    simp only
    rw [any_eq_false hc]
    exact quiet_of_dma h rfl
  · exact h

theorem quiet_lineEvents {s : State} (h : Quiet s) : Quiet (lineEvents s) := by
  have h1 : Quiet (eventRefresh s) := quiet_of_dma h (by unfold eventRefresh; split <;> rfl)
  have h3 := quiet_eventHdmaRun (quiet_eventHdmaInit h1)
  refine quiet_of_dma h3 ?_
  unfold lineEvents eventFrameStart
  generalize eventHdmaRun (eventHdmaInit (eventRefresh s)) = u
  have h4 : (eventNmi u).dma = u.dma := by unfold eventNmi; split <;> rfl
  have h5 : (eventAutojoy (eventNmi u)).dma = u.dma := by rw [← h4]; unfold eventAutojoy; split <;> rfl
  split <;> exact h5

theorem quiet_clockBare {s : State} (h : Quiet s) : Quiet (clockBare s) :=
  quiet_of_dma (t := rasterCompare (lineEvents (advance s)))
    (quiet_lineEvents (quiet_of_dma (t := advance s) h (advance_dma s))) (rasterCompare_dma _)

theorem quiet_clock {s : State} (h : Quiet s) : Quiet (clock s) := by
  unfold clock
  split
  · exact iterate_keeps (P := Quiet) (fun _ hu => quiet_clockBare hu) _ _ (quiet_clockBare h)
  · exact quiet_clockBare h

/-- Time does not wake the controller. -/
theorem quiet_spend {s : State} (h : Quiet s) (k : Nat) : Quiet (spend k s) :=
  iterate_keeps (P := Quiet) (fun _ hu => quiet_clock hu) k s h

/-- A controller at rest does nothing at a cycle boundary. -/
theorem cycleEdge_quiet {s : State} (h : Quiet s) : cycleEdge s = s := by
  unfold cycleEdge
  rw [h.1, h.2.1, h.2.2.1]
  rfl

/-- A CPU cycle waits for nothing while the controller does not own the bus. -/
theorem startCycle_idle {s : State} (h : s.dma.active = false) : startCycle s = s := by
  unfold startCycle
  rw [h]
  rfl

/-- With the controller at rest a cycle begins at once. -/
theorem startCycle_quiet {s : State} (h : Quiet s) : startCycle s = s := startCycle_idle h.1

theorem quiet_poll {s : State} (h : Quiet s) : Quiet (poll s) := quiet_of_dma h rfl
theorem quiet_aluTick {s : State} (h : Quiet s) : Quiet (aluTick s) := quiet_of_dma h rfl

/-- The end of a cycle, with the controller at rest, is an ALU tick and a poll. -/
theorem endCycle_quiet {s : State} (h : Quiet s) (b : Bool) :
    endCycle b s = poll (if b then aluTick s else s) := by
  unfold endCycle
  apply cycleEdge_quiet
  cases b
  · exact quiet_poll h
  · exact quiet_poll (quiet_aluTick h)

theorem quiet_endCycle {s : State} (h : Quiet s) (b : Bool) : Quiet (endCycle b s) := by
  rw [endCycle_quiet h]
  cases b
  · exact quiet_poll h
  · exact quiet_poll (quiet_aluTick h)

theorem endCycle_bus {s : State} (h : Quiet s) (b : Bool) : (endCycle b s).bus = s.bus := by
  rw [endCycle_quiet h]; cases b <;> rfl

/-! ### Accesses -/

theorem readCpuReg_dma (o : Nat) (s : State) : (readCpuReg o s).2.dma = s.dma := by
  unfold readCpuReg
  split
  · rfl
  · split <;> rfl

theorem synchronize_dma (g : AgentId) (s : State) : (synchronize g s).dma = s.dma := by cases g <;> rfl
theorem synchronize_bus (g : AgentId) (s : State) : (synchronize g s).bus = s.bus := by cases g <;> rfl

theorem mmioRead_dma (a : Addr) (s : State) : (mmioRead a s).2.dma = s.dma := by
  unfold mmioRead
  split
  · rfl
  · exact readCpuReg_dma _ s
  · exact synchronize_dma _ s

/-- No read starts the controller. -/
theorem busRead_dma (a : Addr) (s : State) : (busRead a s).2.dma = s.dma := by
  unfold busRead
  split
  · exact mmioRead_dma a s
  · rfl

theorem readCpuReg_bus (o : Nat) (s : State) : (readCpuReg o s).2.bus = s.bus := by
  unfold readCpuReg
  split
  · rfl
  · split <;> rfl

theorem mmioRead_bus (a : Addr) (s : State) : (mmioRead a s).2.bus = s.bus := by
  unfold mmioRead
  split
  · rfl
  · exact readCpuReg_bus _ s
  · exact synchronize_bus _ s

/-- A read changes nothing of the bus but the open-bus latch. -/
theorem busRead_bus (a : Addr) (s : State) : (busRead a s).2.bus = { s.bus with mdr := (busRead a s).1 } := by
  unfold busRead
  split
  · simp only [setMdr]; rw [mmioRead_bus]
  · rfl

/-- A read cycle with the controller at rest: the access, its time, and the cycle event. -/
theorem read8_quiet {s : State} (h : Quiet s) (a : Addr) :
    read8 a s = ((busRead a s).1, endCycle s.alu.busy (spend (speed s.io.memsel a) (busRead a s).2)) := by
  unfold read8
  simp only [startCycle_quiet h]

/-- A write cycle with the controller at rest: the access, its time, and the cycle event. -/
theorem write8_quiet {s : State} (h : Quiet s) (a : Addr) (v : Byte) :
    write8 a v s = endCycle s.alu.busy (spend (speed s.io.memsel a) (busWrite a v s)) := by
  unfold write8
  simp only [startCycle_quiet h]

/-- An internal cycle with the controller at rest: its time and the cycle event. -/
theorem idle_quiet {s : State} (h : Quiet s) : idle s = endCycle s.alu.busy (spend Config.ioClocks s) := by
  unfold idle
  simp only [startCycle_quiet h]

/-- The value of a read cycle is that of the bus access. -/
theorem read8_value {s : State} (h : Quiet s) (a : Addr) : (read8 a s).1 = (busRead a s).1 := by rw [read8_quiet h]

/-- With the controller at rest a read cycle changes nothing of the bus but the open-bus latch. -/
theorem read8_bus {s : State} (h : Quiet s) (a : Addr) :
    (read8 a s).2.bus = { s.bus with mdr := (read8 a s).1 } := by
  have h1 : Quiet (busRead a s).2 := quiet_of_dma h (busRead_dma a s)
  rw [read8_quiet h, endCycle_bus (quiet_spend h1 _), spend_bus, busRead_bus]

theorem quiet_read8 {s : State} (h : Quiet s) (a : Addr) : Quiet (read8 a s).2 := by
  rw [read8_quiet h]
  exact quiet_endCycle (quiet_spend (quiet_of_dma h (busRead_dma a s)) _) _

theorem quiet_idle {s : State} (h : Quiet s) : Quiet (idle s) := by
  rw [idle_quiet h]
  exact quiet_endCycle (quiet_spend h _) _

@[simp] theorem idle_bus {s : State} (h : Quiet s) : (idle s).bus = s.bus := by
  rw [idle_quiet h, endCycle_bus (quiet_spend h _), spend_bus]

/-- A read of an address that is no register answers the storage byte, or the open-bus latch. -/
theorem busRead_value {s : State} {a : Addr} (h : NoRegister s a) : (busRead a s).1 = byteOr s s.bus.mdr a := by
  unfold NoRegister at h
  unfold busRead byteOr Bus.byteAt
  split
  · rename_i hm; rw [hm] at h; cases h
  · rfl

/-- Storage is no register. -/
theorem Storage.noRegister {s : State} {a : Addr} (h : Storage s a) : NoRegister s a := by
  unfold NoRegister
  unfold Storage Bus.byteAt at h
  cases hm : s.bus.resolve a with
  | mmio i => rw [hm] at h; cases h
  | _ => rfl

theorem busWrite_dma {s : State} {a : Addr} (h : NoRegister s a) (v : Byte) : (busWrite a v s).dma = s.dma := by
  unfold NoRegister at h
  unfold busWrite
  split
  · rename_i hm; rw [hm] at h; cases h
  · rfl

/-- A write to an address that is no register is a store at what it resolves to. -/
theorem busWrite_bus {s : State} {a : Addr} (h : NoRegister s a) (v : Byte) :
    (busWrite a v s).bus = { s.bus.store v (s.bus.resolve a) with mdr := v } := by
  unfold NoRegister at h
  unfold busWrite
  split
  · rename_i hm; rw [hm] at h; cases h
  · rfl

theorem quiet_write8 {s : State} (h : Quiet s) {a : Addr} (ha : NoRegister s a) (v : Byte) : Quiet (write8 a v s) := by
  rw [write8_quiet h]
  exact quiet_endCycle (quiet_spend (quiet_of_dma h (busWrite_dma ha v)) _) _

/-- With the controller at rest a write cycle to an address that is no register is the store. -/
theorem write8_bus {s : State} (h : Quiet s) {a : Addr} (ha : NoRegister s a) (v : Byte) :
    (write8 a v s).bus = { s.bus.store v (s.bus.resolve a) with mdr := v } := by
  rw [write8_quiet h, endCycle_bus (quiet_spend (quiet_of_dma h (busWrite_dma ha v)) _), spend_bus, busWrite_bus ha]

/-! ### The decoder does not depend on contents -/

theorem modifyDevice_size {f : MemDevice → MemDevice} (hf : ∀ d, (f d).size = d.size) (l : List MemDevice) (k j : Nat) :
    ((modifyDevice f l k)[j]?).map MemDevice.size = (l[j]?).map MemDevice.size := by
  induction l generalizing k j with
  | nil => rfl
  | cons d l ih =>
    cases k with
    | zero => cases j <;> simp [modifyDevice, hf]
    | succ k => cases j <;> simp [modifyDevice, ih]

theorem write_size (d : MemDevice) (i : Nat) (v : Byte) : (d.write i v).size = d.size := by
  unfold MemDevice.write; split <;> rfl

theorem deviceSize_congr {l l' : List MemDevice} (h : ∀ j : Nat, (l'[j]?).map MemDevice.size = (l[j]?).map MemDevice.size)
    (r : DevRef) : deviceSize l' r = deviceSize l r := by
  cases r with
  | cart k =>
    have := h k
    simp only [deviceSize]
    cases h1 : l'[k]? <;> cases h2 : l[k]? <;> simp_all
  | _ => rfl

/-- A store changes no resolution. -/
theorem store_resolve (b : Bus) (v : Byte) (t : Target) (a : Addr) : (b.store v t).resolve a = b.resolve a := by
  cases t with
  | dev k i =>
    have hd := deviceSize_congr (modifyDevice_size (fun d => write_size d i v) b.devices k)
    unfold Bus.resolve Bus.store
    simp only [hd]
  | _ => rfl

end Sys2Proof.Machine
end

