-- ==== Sys2Proof/Laws/Configuration.lean ====
section
/-! SUPPORT. No CPU cycle, with all the DMA in it, changes the memory map, the MMIO claims, the cartridge or a memory device's
configuration (20_memory.md R147): only a mapping change of the host does. -/

namespace Sys2Proof.Machine

/-- A memory device's configuration: everything but its content (R66, R110). -/
def MemDevice.config (d : MemDevice) : Nat × Bool × Bool := (d.size, d.patchable, d.writeProtect)

/-- The configuration of a bus (R147). -/
def Bus.config (b : Bus) : List MapRequest × List Claim × Option Cart × List (Nat × Bool × Bool) :=
  (b.maps, b.mmio, b.cart, b.devices.map MemDevice.config)

theorem MemDevice.write_config (d : MemDevice) (i : Nat) (v : Byte) : (d.write i v).config = d.config := by
  unfold MemDevice.write
  split <;> rfl

theorem modifyDevice_config {f : MemDevice → MemDevice} (hf : ∀ d, (f d).config = d.config) (l : List MemDevice)
    (k : Nat) : (modifyDevice f l k).map MemDevice.config = l.map MemDevice.config := by
  induction l generalizing k with
  | nil => rfl
  | cons d l ih => cases k <;> simp [modifyDevice, hf, ih]

/-- A store changes contents only. -/
theorem store_config (b : Bus) (v : Byte) (t : Target) : (b.store v t).config = b.config := by
  cases t with
  | unmapped i => rfl
  | mmio i => rfl
  | wram i => rfl
  | dev k i =>
    unfold Bus.config
    exact congrArg (fun l => (b.maps, b.mmio, b.cart, l))
      (modifyDevice_config (fun d => MemDevice.write_config d i v) b.devices k)

theorem writeCpuReg_config (s : State) (o : Nat) (v : Byte) : (writeCpuReg o v s).bus.config = s.bus.config := by
  unfold writeCpuReg
  split
  · rfl
  · split
    all_goals first | rfl | (unfold writeWrio; simp only; split <;> rfl)

theorem busWrite_config (s : State) (a : Addr) (v : Byte) : (busWrite a v s).bus.config = s.bus.config := by
  unfold busWrite
  split
  · show (mmioWrite a v s).bus.config = s.bus.config
    unfold mmioWrite
    split
    · rfl
    · exact writeCpuReg_config s _ v
    · unfold writeExternal
      show (synchronize _ s).bus.config = s.bus.config
      rw [synchronize_bus]
  · exact store_config s.bus v _

/-- No event of a CPU cycle changes the configuration. -/
theorem config_stable (b : Bus) : Stable (fun s => s.bus.config = b.config) where
  clockBare s h := by rw [(clockBare_timeless s).bus]; exact h
  tick _ h := h
  poll _ h := h
  dma _ _ h := h
  read a s h := by rw [busRead_bus]; exact h
  write a v s h := (busWrite_config s a v).trans h
  mdr _ _ h := h

end Sys2Proof.Machine
end

