-- ==== Sys2Proof/Laws/MemoryKept.lean ====
section
/-! SUPPORT. Every CPU cycle, with all the DMA in it, keeps the memory contents in canonical form and inside their devices.
-/

namespace Sys2Proof.Machine

/-- A resolved work-RAM index is inside work RAM. -/
theorem resolve_wram_lt {b : Bus} {a : Addr} {i : Nat} (h : b.resolve a = .wram i) : i < Config.wramSize := by
  unfold Bus.resolve at h
  split at h
  · cases h
  · simp only at h
    split at h
    · cases h
    · cases h
    · split at h
      · rename_i hlt
        injection h with h
        omega
      · cases h
    · split at h <;> cases h

/-- A resolved device index is inside the device. -/
theorem resolve_dev_lt {b : Bus} {a : Addr} {k i : Nat} (h : b.resolve a = .dev k i) :
    i < deviceSize b.devices (.cart k) := by
  unfold Bus.resolve at h
  split at h
  · cases h
  · simp only at h
    split at h
    · cases h
    · cases h
    · split at h <;> cases h
    · split at h
      · rename_i hlt
        injection h with h1 h2
        subst h1; subst h2
        exact hlt
      · cases h

theorem modifyDevice_all {f : MemDevice → MemDevice} {l : List MemDevice} {k : Nat}
    (h : l.all MemDevice.ok = true) (hf : ∀ d, l[k]? = some d → (f d).ok = true) :
    (modifyDevice f l k).all MemDevice.ok = true := by
  induction l generalizing k with
  | nil => rfl
  | cons d l ih =>
    simp only [List.all_cons, Bool.and_eq_true] at h
    cases k with
    | zero =>
      simp only [modifyDevice, List.all_cons, Bool.and_eq_true]
      exact ⟨hf d (by simp), h.2⟩
    | succ k =>
      simp only [modifyDevice, List.all_cons, Bool.and_eq_true]
      exact ⟨h.1, ih h.2 (fun d hd => hf d (by simpa using hd))⟩

/-- A write inside a well-formed device leaves it well formed. -/
theorem MemDevice.write_ok {d : MemDevice} {i : Nat} (v : Byte) (h : d.ok = true) (hi : i < d.size) :
    (d.write i v).ok = true := by
  unfold MemDevice.write
  split
  · exact h
  · exact Memory.write_ok v h hi

/-- A store at a resolved target keeps the contents well formed. -/
theorem store_memoryOk {b : Bus} (v : Byte) (a : Addr) (h : b.memoryOk = true) :
    (b.store v (b.resolve a)).memoryOk = true := by
  unfold Bus.memoryOk at h ⊢
  simp only [Bool.and_eq_true] at h ⊢
  cases ht : b.resolve a with
  | unmapped i => exact h
  | mmio i => exact h
  | wram i => exact ⟨Memory.write_ok v h.1 (resolve_wram_lt ht), h.2⟩
  | dev k i =>
    refine ⟨h.1, modifyDevice_all h.2 (fun d hd => ?_)⟩
    have hi := resolve_dev_lt ht
    simp only [deviceSize, hd] at hi
    refine MemDevice.write_ok v ?_ hi
    exact List.all_eq_true.mp h.2 d (List.mem_of_getElem? hd)

theorem writeWmdata_memoryOk {s : State} (v : Byte) (h : s.bus.memoryOk = true) :
    (writeWmdata v s).bus.memoryOk = true := by
  unfold Bus.memoryOk at h ⊢
  simp only [Bool.and_eq_true] at h ⊢
  exact ⟨Memory.write_ok v h.1 (by have := s.io.wmadd.isLt; simpa using this), h.2⟩

theorem writeCpuReg_memoryOk {s : State} (o : Nat) (v : Byte) (h : s.bus.memoryOk = true) :
    (writeCpuReg o v s).bus.memoryOk = true := by
  unfold writeCpuReg
  split
  · exact h
  · split
    case h_1 => exact writeWmdata_memoryOk v h
    all_goals first | exact h | (unfold writeWrio; simp only; split <;> exact h)

theorem busWrite_memoryOk {s : State} (a : Addr) (v : Byte) (h : s.bus.memoryOk = true) :
    (busWrite a v s).bus.memoryOk = true := by
  unfold busWrite
  split
  · show (mmioWrite a v s).bus.memoryOk = true
    unfold mmioWrite
    split
    · exact h
    · exact writeCpuReg_memoryOk _ v h
    · unfold writeExternal
      show (synchronize _ s).bus.memoryOk = true
      rw [synchronize_bus]; exact h
  · exact store_memoryOk v a h

/-- No event of a CPU cycle breaks a memory content. -/
theorem memoryOk_stable : Stable (fun s => s.bus.memoryOk = true) where
  clockBare s h := by rw [(clockBare_timeless s).bus]; exact h
  tick _ h := h
  poll _ h := h
  dma _ _ h := h
  read a s h := by rw [busRead_bus]; exact h
  write a v s h := busWrite_memoryOk a v h
  mdr _ _ h := h

end Sys2Proof.Machine
end

