-- ==== Sys2Proof/Laws/PerInstr.lean ====
section
/-! SUPPORT. The length of each encoding: a well-formed instruction's words are the opcode and the operand bytes its opcode
and the mode bits ask for (30_encoding.md R171, R172). One lemma per constructor. -/

namespace Sys2Proof.Laws.EncodedLength

/-- The encoding is one opcode byte and the operand bytes of that opcode under the mode bits. -/
def Statement (i : Instr) : Prop :=
  ∀ m8 x8 : Bool, i.wf m8 x8 = true → (encode i).length = 1 + operandLen m8 x8 ((encode i).headD 0)

theorem fixed {i : Instr} (n : Nat) (op : Byte) (h : ∀ m8 x8, n = 1 + operandLen m8 x8 op)
    (hn : (encode i).length = n) (hop : (encode i).headD 0 = op) : Statement i := by
  intro m8 x8 _
  rw [hop, hn, h m8 x8]

theorem immediate {i : Instr} (n : Nat) (op : Byte) (h : ∀ m8 x8, i.wf m8 x8 = true → n = 1 + operandLen m8 x8 op)
    (hn : (encode i).length = n) (hop : (encode i).headD 0 = op) : Statement i := by
  intro m8 x8 hw
  rw [hop, hn, h m8 x8 hw]

theorem brk (o : Byte) : Statement (.brk o) := fixed 2 0x00 (by decide) rfl rfl
theorem oraDpxind (o : Byte) : Statement (.oraDpxind o) := fixed 2 0x01 (by decide) rfl rfl
theorem cop (o : Byte) : Statement (.cop o) := fixed 2 0x02 (by decide) rfl rfl
theorem oraSr (o : Byte) : Statement (.oraSr o) := fixed 2 0x03 (by decide) rfl rfl
theorem tsbDp (o : Byte) : Statement (.tsbDp o) := fixed 2 0x04 (by decide) rfl rfl
theorem oraDp (o : Byte) : Statement (.oraDp o) := fixed 2 0x05 (by decide) rfl rfl
theorem aslDp (o : Byte) : Statement (.aslDp o) := fixed 2 0x06 (by decide) rfl rfl
theorem oraDpindl (o : Byte) : Statement (.oraDpindl o) := fixed 2 0x07 (by decide) rfl rfl
theorem php : Statement .php := fixed 1 0x08 (by decide) rfl rfl
theorem oraImm (o : Imm) : Statement (.oraImm o) := by
  cases o with
  | b8 v => exact immediate 2 0x09 (fun m8 x8 h => by cases m8 <;> cases x8 <;> first | decide | cases h) rfl rfl
  | w16 v => exact immediate 3 0x09 (fun m8 x8 h => by cases m8 <;> cases x8 <;> first | decide | cases h) rfl rfl
theorem aslAcc : Statement .aslAcc := fixed 1 0x0A (by decide) rfl rfl
theorem phd : Statement .phd := fixed 1 0x0B (by decide) rfl rfl
theorem tsbAbs (o : Word) : Statement (.tsbAbs o) := fixed 3 0x0C (by decide) rfl rfl
theorem oraAbs (o : Word) : Statement (.oraAbs o) := fixed 3 0x0D (by decide) rfl rfl
theorem aslAbs (o : Word) : Statement (.aslAbs o) := fixed 3 0x0E (by decide) rfl rfl
theorem oraLong (o : Addr) : Statement (.oraLong o) := fixed 4 0x0F (by decide) rfl rfl
theorem bpl (o : Byte) : Statement (.bpl o) := fixed 2 0x10 (by decide) rfl rfl
theorem oraDpindy (o : Byte) : Statement (.oraDpindy o) := fixed 2 0x11 (by decide) rfl rfl
theorem oraDpind (o : Byte) : Statement (.oraDpind o) := fixed 2 0x12 (by decide) rfl rfl
theorem oraSrindy (o : Byte) : Statement (.oraSrindy o) := fixed 2 0x13 (by decide) rfl rfl
theorem trbDp (o : Byte) : Statement (.trbDp o) := fixed 2 0x14 (by decide) rfl rfl
theorem oraDpx (o : Byte) : Statement (.oraDpx o) := fixed 2 0x15 (by decide) rfl rfl
theorem aslDpx (o : Byte) : Statement (.aslDpx o) := fixed 2 0x16 (by decide) rfl rfl
theorem oraDpindly (o : Byte) : Statement (.oraDpindly o) := fixed 2 0x17 (by decide) rfl rfl
theorem clc : Statement .clc := fixed 1 0x18 (by decide) rfl rfl
theorem oraAbsy (o : Word) : Statement (.oraAbsy o) := fixed 3 0x19 (by decide) rfl rfl
theorem incAcc : Statement .incAcc := fixed 1 0x1A (by decide) rfl rfl
theorem tcs : Statement .tcs := fixed 1 0x1B (by decide) rfl rfl
theorem trbAbs (o : Word) : Statement (.trbAbs o) := fixed 3 0x1C (by decide) rfl rfl
theorem oraAbsx (o : Word) : Statement (.oraAbsx o) := fixed 3 0x1D (by decide) rfl rfl
theorem aslAbsx (o : Word) : Statement (.aslAbsx o) := fixed 3 0x1E (by decide) rfl rfl
theorem oraLongx (o : Addr) : Statement (.oraLongx o) := fixed 4 0x1F (by decide) rfl rfl
theorem jsrAbs (o : Word) : Statement (.jsrAbs o) := fixed 3 0x20 (by decide) rfl rfl
theorem andDpxind (o : Byte) : Statement (.andDpxind o) := fixed 2 0x21 (by decide) rfl rfl
theorem jsl (o : Addr) : Statement (.jsl o) := fixed 4 0x22 (by decide) rfl rfl
theorem andSr (o : Byte) : Statement (.andSr o) := fixed 2 0x23 (by decide) rfl rfl
theorem bitDp (o : Byte) : Statement (.bitDp o) := fixed 2 0x24 (by decide) rfl rfl
theorem andDp (o : Byte) : Statement (.andDp o) := fixed 2 0x25 (by decide) rfl rfl
theorem rolDp (o : Byte) : Statement (.rolDp o) := fixed 2 0x26 (by decide) rfl rfl
theorem andDpindl (o : Byte) : Statement (.andDpindl o) := fixed 2 0x27 (by decide) rfl rfl
theorem plp : Statement .plp := fixed 1 0x28 (by decide) rfl rfl
theorem andImm (o : Imm) : Statement (.andImm o) := by
  cases o with
  | b8 v => exact immediate 2 0x29 (fun m8 x8 h => by cases m8 <;> cases x8 <;> first | decide | cases h) rfl rfl
  | w16 v => exact immediate 3 0x29 (fun m8 x8 h => by cases m8 <;> cases x8 <;> first | decide | cases h) rfl rfl
theorem rolAcc : Statement .rolAcc := fixed 1 0x2A (by decide) rfl rfl
theorem pld : Statement .pld := fixed 1 0x2B (by decide) rfl rfl
theorem bitAbs (o : Word) : Statement (.bitAbs o) := fixed 3 0x2C (by decide) rfl rfl
theorem andAbs (o : Word) : Statement (.andAbs o) := fixed 3 0x2D (by decide) rfl rfl
theorem rolAbs (o : Word) : Statement (.rolAbs o) := fixed 3 0x2E (by decide) rfl rfl
theorem andLong (o : Addr) : Statement (.andLong o) := fixed 4 0x2F (by decide) rfl rfl
theorem bmi (o : Byte) : Statement (.bmi o) := fixed 2 0x30 (by decide) rfl rfl
theorem andDpindy (o : Byte) : Statement (.andDpindy o) := fixed 2 0x31 (by decide) rfl rfl
theorem andDpind (o : Byte) : Statement (.andDpind o) := fixed 2 0x32 (by decide) rfl rfl
theorem andSrindy (o : Byte) : Statement (.andSrindy o) := fixed 2 0x33 (by decide) rfl rfl
theorem bitDpx (o : Byte) : Statement (.bitDpx o) := fixed 2 0x34 (by decide) rfl rfl
theorem andDpx (o : Byte) : Statement (.andDpx o) := fixed 2 0x35 (by decide) rfl rfl
theorem rolDpx (o : Byte) : Statement (.rolDpx o) := fixed 2 0x36 (by decide) rfl rfl
theorem andDpindly (o : Byte) : Statement (.andDpindly o) := fixed 2 0x37 (by decide) rfl rfl
theorem sec : Statement .sec := fixed 1 0x38 (by decide) rfl rfl
theorem andAbsy (o : Word) : Statement (.andAbsy o) := fixed 3 0x39 (by decide) rfl rfl
theorem decAcc : Statement .decAcc := fixed 1 0x3A (by decide) rfl rfl
theorem tsc : Statement .tsc := fixed 1 0x3B (by decide) rfl rfl
theorem bitAbsx (o : Word) : Statement (.bitAbsx o) := fixed 3 0x3C (by decide) rfl rfl
theorem andAbsx (o : Word) : Statement (.andAbsx o) := fixed 3 0x3D (by decide) rfl rfl
theorem rolAbsx (o : Word) : Statement (.rolAbsx o) := fixed 3 0x3E (by decide) rfl rfl
theorem andLongx (o : Addr) : Statement (.andLongx o) := fixed 4 0x3F (by decide) rfl rfl
theorem rti : Statement .rti := fixed 1 0x40 (by decide) rfl rfl
theorem eorDpxind (o : Byte) : Statement (.eorDpxind o) := fixed 2 0x41 (by decide) rfl rfl
theorem wdm (o : Byte) : Statement (.wdm o) := fixed 2 0x42 (by decide) rfl rfl
theorem eorSr (o : Byte) : Statement (.eorSr o) := fixed 2 0x43 (by decide) rfl rfl
theorem mvp (dst src : Byte) : Statement (.mvp dst src) := fixed 3 0x44 (by decide) rfl rfl
theorem eorDp (o : Byte) : Statement (.eorDp o) := fixed 2 0x45 (by decide) rfl rfl
theorem lsrDp (o : Byte) : Statement (.lsrDp o) := fixed 2 0x46 (by decide) rfl rfl
theorem eorDpindl (o : Byte) : Statement (.eorDpindl o) := fixed 2 0x47 (by decide) rfl rfl
theorem pha : Statement .pha := fixed 1 0x48 (by decide) rfl rfl
theorem eorImm (o : Imm) : Statement (.eorImm o) := by
  cases o with
  | b8 v => exact immediate 2 0x49 (fun m8 x8 h => by cases m8 <;> cases x8 <;> first | decide | cases h) rfl rfl
  | w16 v => exact immediate 3 0x49 (fun m8 x8 h => by cases m8 <;> cases x8 <;> first | decide | cases h) rfl rfl
theorem lsrAcc : Statement .lsrAcc := fixed 1 0x4A (by decide) rfl rfl
theorem phk : Statement .phk := fixed 1 0x4B (by decide) rfl rfl
theorem jmpAbs (o : Word) : Statement (.jmpAbs o) := fixed 3 0x4C (by decide) rfl rfl
theorem eorAbs (o : Word) : Statement (.eorAbs o) := fixed 3 0x4D (by decide) rfl rfl
theorem lsrAbs (o : Word) : Statement (.lsrAbs o) := fixed 3 0x4E (by decide) rfl rfl
theorem eorLong (o : Addr) : Statement (.eorLong o) := fixed 4 0x4F (by decide) rfl rfl
theorem bvc (o : Byte) : Statement (.bvc o) := fixed 2 0x50 (by decide) rfl rfl
theorem eorDpindy (o : Byte) : Statement (.eorDpindy o) := fixed 2 0x51 (by decide) rfl rfl
theorem eorDpind (o : Byte) : Statement (.eorDpind o) := fixed 2 0x52 (by decide) rfl rfl
theorem eorSrindy (o : Byte) : Statement (.eorSrindy o) := fixed 2 0x53 (by decide) rfl rfl
theorem mvn (dst src : Byte) : Statement (.mvn dst src) := fixed 3 0x54 (by decide) rfl rfl
theorem eorDpx (o : Byte) : Statement (.eorDpx o) := fixed 2 0x55 (by decide) rfl rfl
theorem lsrDpx (o : Byte) : Statement (.lsrDpx o) := fixed 2 0x56 (by decide) rfl rfl
theorem eorDpindly (o : Byte) : Statement (.eorDpindly o) := fixed 2 0x57 (by decide) rfl rfl
theorem cli : Statement .cli := fixed 1 0x58 (by decide) rfl rfl
theorem eorAbsy (o : Word) : Statement (.eorAbsy o) := fixed 3 0x59 (by decide) rfl rfl
theorem phy : Statement .phy := fixed 1 0x5A (by decide) rfl rfl
theorem tcd : Statement .tcd := fixed 1 0x5B (by decide) rfl rfl
theorem jmlLong (o : Addr) : Statement (.jmlLong o) := fixed 4 0x5C (by decide) rfl rfl
theorem eorAbsx (o : Word) : Statement (.eorAbsx o) := fixed 3 0x5D (by decide) rfl rfl
theorem lsrAbsx (o : Word) : Statement (.lsrAbsx o) := fixed 3 0x5E (by decide) rfl rfl
theorem eorLongx (o : Addr) : Statement (.eorLongx o) := fixed 4 0x5F (by decide) rfl rfl
theorem rts : Statement .rts := fixed 1 0x60 (by decide) rfl rfl
theorem adcDpxind (o : Byte) : Statement (.adcDpxind o) := fixed 2 0x61 (by decide) rfl rfl
theorem per (o : Word) : Statement (.per o) := fixed 3 0x62 (by decide) rfl rfl
theorem adcSr (o : Byte) : Statement (.adcSr o) := fixed 2 0x63 (by decide) rfl rfl
theorem stzDp (o : Byte) : Statement (.stzDp o) := fixed 2 0x64 (by decide) rfl rfl
theorem adcDp (o : Byte) : Statement (.adcDp o) := fixed 2 0x65 (by decide) rfl rfl
theorem rorDp (o : Byte) : Statement (.rorDp o) := fixed 2 0x66 (by decide) rfl rfl
theorem adcDpindl (o : Byte) : Statement (.adcDpindl o) := fixed 2 0x67 (by decide) rfl rfl
theorem pla : Statement .pla := fixed 1 0x68 (by decide) rfl rfl
theorem adcImm (o : Imm) : Statement (.adcImm o) := by
  cases o with
  | b8 v => exact immediate 2 0x69 (fun m8 x8 h => by cases m8 <;> cases x8 <;> first | decide | cases h) rfl rfl
  | w16 v => exact immediate 3 0x69 (fun m8 x8 h => by cases m8 <;> cases x8 <;> first | decide | cases h) rfl rfl
theorem rorAcc : Statement .rorAcc := fixed 1 0x6A (by decide) rfl rfl
theorem rtl : Statement .rtl := fixed 1 0x6B (by decide) rfl rfl
theorem jmpAbsind (o : Word) : Statement (.jmpAbsind o) := fixed 3 0x6C (by decide) rfl rfl
theorem adcAbs (o : Word) : Statement (.adcAbs o) := fixed 3 0x6D (by decide) rfl rfl
theorem rorAbs (o : Word) : Statement (.rorAbs o) := fixed 3 0x6E (by decide) rfl rfl
theorem adcLong (o : Addr) : Statement (.adcLong o) := fixed 4 0x6F (by decide) rfl rfl
theorem bvs (o : Byte) : Statement (.bvs o) := fixed 2 0x70 (by decide) rfl rfl
theorem adcDpindy (o : Byte) : Statement (.adcDpindy o) := fixed 2 0x71 (by decide) rfl rfl
theorem adcDpind (o : Byte) : Statement (.adcDpind o) := fixed 2 0x72 (by decide) rfl rfl
theorem adcSrindy (o : Byte) : Statement (.adcSrindy o) := fixed 2 0x73 (by decide) rfl rfl
theorem stzDpx (o : Byte) : Statement (.stzDpx o) := fixed 2 0x74 (by decide) rfl rfl
theorem adcDpx (o : Byte) : Statement (.adcDpx o) := fixed 2 0x75 (by decide) rfl rfl
theorem rorDpx (o : Byte) : Statement (.rorDpx o) := fixed 2 0x76 (by decide) rfl rfl
theorem adcDpindly (o : Byte) : Statement (.adcDpindly o) := fixed 2 0x77 (by decide) rfl rfl
theorem sei : Statement .sei := fixed 1 0x78 (by decide) rfl rfl
theorem adcAbsy (o : Word) : Statement (.adcAbsy o) := fixed 3 0x79 (by decide) rfl rfl
theorem ply : Statement .ply := fixed 1 0x7A (by decide) rfl rfl
theorem tdc : Statement .tdc := fixed 1 0x7B (by decide) rfl rfl
theorem jmpAbsxind (o : Word) : Statement (.jmpAbsxind o) := fixed 3 0x7C (by decide) rfl rfl
theorem adcAbsx (o : Word) : Statement (.adcAbsx o) := fixed 3 0x7D (by decide) rfl rfl
theorem rorAbsx (o : Word) : Statement (.rorAbsx o) := fixed 3 0x7E (by decide) rfl rfl
theorem adcLongx (o : Addr) : Statement (.adcLongx o) := fixed 4 0x7F (by decide) rfl rfl
theorem bra (o : Byte) : Statement (.bra o) := fixed 2 0x80 (by decide) rfl rfl
theorem staDpxind (o : Byte) : Statement (.staDpxind o) := fixed 2 0x81 (by decide) rfl rfl
theorem brl (o : Word) : Statement (.brl o) := fixed 3 0x82 (by decide) rfl rfl
theorem staSr (o : Byte) : Statement (.staSr o) := fixed 2 0x83 (by decide) rfl rfl
theorem styDp (o : Byte) : Statement (.styDp o) := fixed 2 0x84 (by decide) rfl rfl
theorem staDp (o : Byte) : Statement (.staDp o) := fixed 2 0x85 (by decide) rfl rfl
theorem stxDp (o : Byte) : Statement (.stxDp o) := fixed 2 0x86 (by decide) rfl rfl
theorem staDpindl (o : Byte) : Statement (.staDpindl o) := fixed 2 0x87 (by decide) rfl rfl
theorem dey : Statement .dey := fixed 1 0x88 (by decide) rfl rfl
theorem bitImm (o : Imm) : Statement (.bitImm o) := by
  cases o with
  | b8 v => exact immediate 2 0x89 (fun m8 x8 h => by cases m8 <;> cases x8 <;> first | decide | cases h) rfl rfl
  | w16 v => exact immediate 3 0x89 (fun m8 x8 h => by cases m8 <;> cases x8 <;> first | decide | cases h) rfl rfl
theorem txa : Statement .txa := fixed 1 0x8A (by decide) rfl rfl
theorem phb : Statement .phb := fixed 1 0x8B (by decide) rfl rfl
theorem styAbs (o : Word) : Statement (.styAbs o) := fixed 3 0x8C (by decide) rfl rfl
theorem staAbs (o : Word) : Statement (.staAbs o) := fixed 3 0x8D (by decide) rfl rfl
theorem stxAbs (o : Word) : Statement (.stxAbs o) := fixed 3 0x8E (by decide) rfl rfl
theorem staLong (o : Addr) : Statement (.staLong o) := fixed 4 0x8F (by decide) rfl rfl
theorem bcc (o : Byte) : Statement (.bcc o) := fixed 2 0x90 (by decide) rfl rfl
theorem staDpindy (o : Byte) : Statement (.staDpindy o) := fixed 2 0x91 (by decide) rfl rfl
theorem staDpind (o : Byte) : Statement (.staDpind o) := fixed 2 0x92 (by decide) rfl rfl
theorem staSrindy (o : Byte) : Statement (.staSrindy o) := fixed 2 0x93 (by decide) rfl rfl
theorem styDpx (o : Byte) : Statement (.styDpx o) := fixed 2 0x94 (by decide) rfl rfl
theorem staDpx (o : Byte) : Statement (.staDpx o) := fixed 2 0x95 (by decide) rfl rfl
theorem stxDpy (o : Byte) : Statement (.stxDpy o) := fixed 2 0x96 (by decide) rfl rfl
theorem staDpindly (o : Byte) : Statement (.staDpindly o) := fixed 2 0x97 (by decide) rfl rfl
theorem tya : Statement .tya := fixed 1 0x98 (by decide) rfl rfl
theorem staAbsy (o : Word) : Statement (.staAbsy o) := fixed 3 0x99 (by decide) rfl rfl
theorem txs : Statement .txs := fixed 1 0x9A (by decide) rfl rfl
theorem txy : Statement .txy := fixed 1 0x9B (by decide) rfl rfl
theorem stzAbs (o : Word) : Statement (.stzAbs o) := fixed 3 0x9C (by decide) rfl rfl
theorem staAbsx (o : Word) : Statement (.staAbsx o) := fixed 3 0x9D (by decide) rfl rfl
theorem stzAbsx (o : Word) : Statement (.stzAbsx o) := fixed 3 0x9E (by decide) rfl rfl
theorem staLongx (o : Addr) : Statement (.staLongx o) := fixed 4 0x9F (by decide) rfl rfl
theorem ldyImm (o : Imm) : Statement (.ldyImm o) := by
  cases o with
  | b8 v => exact immediate 2 0xA0 (fun m8 x8 h => by cases m8 <;> cases x8 <;> first | decide | cases h) rfl rfl
  | w16 v => exact immediate 3 0xA0 (fun m8 x8 h => by cases m8 <;> cases x8 <;> first | decide | cases h) rfl rfl
theorem ldaDpxind (o : Byte) : Statement (.ldaDpxind o) := fixed 2 0xA1 (by decide) rfl rfl
theorem ldxImm (o : Imm) : Statement (.ldxImm o) := by
  cases o with
  | b8 v => exact immediate 2 0xA2 (fun m8 x8 h => by cases m8 <;> cases x8 <;> first | decide | cases h) rfl rfl
  | w16 v => exact immediate 3 0xA2 (fun m8 x8 h => by cases m8 <;> cases x8 <;> first | decide | cases h) rfl rfl
theorem ldaSr (o : Byte) : Statement (.ldaSr o) := fixed 2 0xA3 (by decide) rfl rfl
theorem ldyDp (o : Byte) : Statement (.ldyDp o) := fixed 2 0xA4 (by decide) rfl rfl
theorem ldaDp (o : Byte) : Statement (.ldaDp o) := fixed 2 0xA5 (by decide) rfl rfl
theorem ldxDp (o : Byte) : Statement (.ldxDp o) := fixed 2 0xA6 (by decide) rfl rfl
theorem ldaDpindl (o : Byte) : Statement (.ldaDpindl o) := fixed 2 0xA7 (by decide) rfl rfl
theorem tay : Statement .tay := fixed 1 0xA8 (by decide) rfl rfl
theorem ldaImm (o : Imm) : Statement (.ldaImm o) := by
  cases o with
  | b8 v => exact immediate 2 0xA9 (fun m8 x8 h => by cases m8 <;> cases x8 <;> first | decide | cases h) rfl rfl
  | w16 v => exact immediate 3 0xA9 (fun m8 x8 h => by cases m8 <;> cases x8 <;> first | decide | cases h) rfl rfl
theorem tax : Statement .tax := fixed 1 0xAA (by decide) rfl rfl
theorem plb : Statement .plb := fixed 1 0xAB (by decide) rfl rfl
theorem ldyAbs (o : Word) : Statement (.ldyAbs o) := fixed 3 0xAC (by decide) rfl rfl
theorem ldaAbs (o : Word) : Statement (.ldaAbs o) := fixed 3 0xAD (by decide) rfl rfl
theorem ldxAbs (o : Word) : Statement (.ldxAbs o) := fixed 3 0xAE (by decide) rfl rfl
theorem ldaLong (o : Addr) : Statement (.ldaLong o) := fixed 4 0xAF (by decide) rfl rfl
theorem bcs (o : Byte) : Statement (.bcs o) := fixed 2 0xB0 (by decide) rfl rfl
theorem ldaDpindy (o : Byte) : Statement (.ldaDpindy o) := fixed 2 0xB1 (by decide) rfl rfl
theorem ldaDpind (o : Byte) : Statement (.ldaDpind o) := fixed 2 0xB2 (by decide) rfl rfl
theorem ldaSrindy (o : Byte) : Statement (.ldaSrindy o) := fixed 2 0xB3 (by decide) rfl rfl
theorem ldyDpx (o : Byte) : Statement (.ldyDpx o) := fixed 2 0xB4 (by decide) rfl rfl
theorem ldaDpx (o : Byte) : Statement (.ldaDpx o) := fixed 2 0xB5 (by decide) rfl rfl
theorem ldxDpy (o : Byte) : Statement (.ldxDpy o) := fixed 2 0xB6 (by decide) rfl rfl
theorem ldaDpindly (o : Byte) : Statement (.ldaDpindly o) := fixed 2 0xB7 (by decide) rfl rfl
theorem clv : Statement .clv := fixed 1 0xB8 (by decide) rfl rfl
theorem ldaAbsy (o : Word) : Statement (.ldaAbsy o) := fixed 3 0xB9 (by decide) rfl rfl
theorem tsx : Statement .tsx := fixed 1 0xBA (by decide) rfl rfl
theorem tyx : Statement .tyx := fixed 1 0xBB (by decide) rfl rfl
theorem ldyAbsx (o : Word) : Statement (.ldyAbsx o) := fixed 3 0xBC (by decide) rfl rfl
theorem ldaAbsx (o : Word) : Statement (.ldaAbsx o) := fixed 3 0xBD (by decide) rfl rfl
theorem ldxAbsy (o : Word) : Statement (.ldxAbsy o) := fixed 3 0xBE (by decide) rfl rfl
theorem ldaLongx (o : Addr) : Statement (.ldaLongx o) := fixed 4 0xBF (by decide) rfl rfl
theorem cpyImm (o : Imm) : Statement (.cpyImm o) := by
  cases o with
  | b8 v => exact immediate 2 0xC0 (fun m8 x8 h => by cases m8 <;> cases x8 <;> first | decide | cases h) rfl rfl
  | w16 v => exact immediate 3 0xC0 (fun m8 x8 h => by cases m8 <;> cases x8 <;> first | decide | cases h) rfl rfl
theorem cmpDpxind (o : Byte) : Statement (.cmpDpxind o) := fixed 2 0xC1 (by decide) rfl rfl
theorem rep (o : Byte) : Statement (.rep o) := fixed 2 0xC2 (by decide) rfl rfl
theorem cmpSr (o : Byte) : Statement (.cmpSr o) := fixed 2 0xC3 (by decide) rfl rfl
theorem cpyDp (o : Byte) : Statement (.cpyDp o) := fixed 2 0xC4 (by decide) rfl rfl
theorem cmpDp (o : Byte) : Statement (.cmpDp o) := fixed 2 0xC5 (by decide) rfl rfl
theorem decDp (o : Byte) : Statement (.decDp o) := fixed 2 0xC6 (by decide) rfl rfl
theorem cmpDpindl (o : Byte) : Statement (.cmpDpindl o) := fixed 2 0xC7 (by decide) rfl rfl
theorem iny : Statement .iny := fixed 1 0xC8 (by decide) rfl rfl
theorem cmpImm (o : Imm) : Statement (.cmpImm o) := by
  cases o with
  | b8 v => exact immediate 2 0xC9 (fun m8 x8 h => by cases m8 <;> cases x8 <;> first | decide | cases h) rfl rfl
  | w16 v => exact immediate 3 0xC9 (fun m8 x8 h => by cases m8 <;> cases x8 <;> first | decide | cases h) rfl rfl
theorem dex : Statement .dex := fixed 1 0xCA (by decide) rfl rfl
theorem wai : Statement .wai := fixed 1 0xCB (by decide) rfl rfl
theorem cpyAbs (o : Word) : Statement (.cpyAbs o) := fixed 3 0xCC (by decide) rfl rfl
theorem cmpAbs (o : Word) : Statement (.cmpAbs o) := fixed 3 0xCD (by decide) rfl rfl
theorem decAbs (o : Word) : Statement (.decAbs o) := fixed 3 0xCE (by decide) rfl rfl
theorem cmpLong (o : Addr) : Statement (.cmpLong o) := fixed 4 0xCF (by decide) rfl rfl
theorem bne (o : Byte) : Statement (.bne o) := fixed 2 0xD0 (by decide) rfl rfl
theorem cmpDpindy (o : Byte) : Statement (.cmpDpindy o) := fixed 2 0xD1 (by decide) rfl rfl
theorem cmpDpind (o : Byte) : Statement (.cmpDpind o) := fixed 2 0xD2 (by decide) rfl rfl
theorem cmpSrindy (o : Byte) : Statement (.cmpSrindy o) := fixed 2 0xD3 (by decide) rfl rfl
theorem pei (o : Byte) : Statement (.pei o) := fixed 2 0xD4 (by decide) rfl rfl
theorem cmpDpx (o : Byte) : Statement (.cmpDpx o) := fixed 2 0xD5 (by decide) rfl rfl
theorem decDpx (o : Byte) : Statement (.decDpx o) := fixed 2 0xD6 (by decide) rfl rfl
theorem cmpDpindly (o : Byte) : Statement (.cmpDpindly o) := fixed 2 0xD7 (by decide) rfl rfl
theorem cld : Statement .cld := fixed 1 0xD8 (by decide) rfl rfl
theorem cmpAbsy (o : Word) : Statement (.cmpAbsy o) := fixed 3 0xD9 (by decide) rfl rfl
theorem phx : Statement .phx := fixed 1 0xDA (by decide) rfl rfl
theorem stp : Statement .stp := fixed 1 0xDB (by decide) rfl rfl
theorem jmlAbsindl (o : Word) : Statement (.jmlAbsindl o) := fixed 3 0xDC (by decide) rfl rfl
theorem cmpAbsx (o : Word) : Statement (.cmpAbsx o) := fixed 3 0xDD (by decide) rfl rfl
theorem decAbsx (o : Word) : Statement (.decAbsx o) := fixed 3 0xDE (by decide) rfl rfl
theorem cmpLongx (o : Addr) : Statement (.cmpLongx o) := fixed 4 0xDF (by decide) rfl rfl
theorem cpxImm (o : Imm) : Statement (.cpxImm o) := by
  cases o with
  | b8 v => exact immediate 2 0xE0 (fun m8 x8 h => by cases m8 <;> cases x8 <;> first | decide | cases h) rfl rfl
  | w16 v => exact immediate 3 0xE0 (fun m8 x8 h => by cases m8 <;> cases x8 <;> first | decide | cases h) rfl rfl
theorem sbcDpxind (o : Byte) : Statement (.sbcDpxind o) := fixed 2 0xE1 (by decide) rfl rfl
theorem sep (o : Byte) : Statement (.sep o) := fixed 2 0xE2 (by decide) rfl rfl
theorem sbcSr (o : Byte) : Statement (.sbcSr o) := fixed 2 0xE3 (by decide) rfl rfl
theorem cpxDp (o : Byte) : Statement (.cpxDp o) := fixed 2 0xE4 (by decide) rfl rfl
theorem sbcDp (o : Byte) : Statement (.sbcDp o) := fixed 2 0xE5 (by decide) rfl rfl
theorem incDp (o : Byte) : Statement (.incDp o) := fixed 2 0xE6 (by decide) rfl rfl
theorem sbcDpindl (o : Byte) : Statement (.sbcDpindl o) := fixed 2 0xE7 (by decide) rfl rfl
theorem inx : Statement .inx := fixed 1 0xE8 (by decide) rfl rfl
theorem sbcImm (o : Imm) : Statement (.sbcImm o) := by
  cases o with
  | b8 v => exact immediate 2 0xE9 (fun m8 x8 h => by cases m8 <;> cases x8 <;> first | decide | cases h) rfl rfl
  | w16 v => exact immediate 3 0xE9 (fun m8 x8 h => by cases m8 <;> cases x8 <;> first | decide | cases h) rfl rfl
theorem nop : Statement .nop := fixed 1 0xEA (by decide) rfl rfl
theorem xba : Statement .xba := fixed 1 0xEB (by decide) rfl rfl
theorem cpxAbs (o : Word) : Statement (.cpxAbs o) := fixed 3 0xEC (by decide) rfl rfl
theorem sbcAbs (o : Word) : Statement (.sbcAbs o) := fixed 3 0xED (by decide) rfl rfl
theorem incAbs (o : Word) : Statement (.incAbs o) := fixed 3 0xEE (by decide) rfl rfl
theorem sbcLong (o : Addr) : Statement (.sbcLong o) := fixed 4 0xEF (by decide) rfl rfl
theorem beq (o : Byte) : Statement (.beq o) := fixed 2 0xF0 (by decide) rfl rfl
theorem sbcDpindy (o : Byte) : Statement (.sbcDpindy o) := fixed 2 0xF1 (by decide) rfl rfl
theorem sbcDpind (o : Byte) : Statement (.sbcDpind o) := fixed 2 0xF2 (by decide) rfl rfl
theorem sbcSrindy (o : Byte) : Statement (.sbcSrindy o) := fixed 2 0xF3 (by decide) rfl rfl
theorem pea (o : Word) : Statement (.pea o) := fixed 3 0xF4 (by decide) rfl rfl
theorem sbcDpx (o : Byte) : Statement (.sbcDpx o) := fixed 2 0xF5 (by decide) rfl rfl
theorem incDpx (o : Byte) : Statement (.incDpx o) := fixed 2 0xF6 (by decide) rfl rfl
theorem sbcDpindly (o : Byte) : Statement (.sbcDpindly o) := fixed 2 0xF7 (by decide) rfl rfl
theorem sed : Statement .sed := fixed 1 0xF8 (by decide) rfl rfl
theorem sbcAbsy (o : Word) : Statement (.sbcAbsy o) := fixed 3 0xF9 (by decide) rfl rfl
theorem plx : Statement .plx := fixed 1 0xFA (by decide) rfl rfl
theorem xce : Statement .xce := fixed 1 0xFB (by decide) rfl rfl
theorem jsrAbsxind (o : Word) : Statement (.jsrAbsxind o) := fixed 3 0xFC (by decide) rfl rfl
theorem sbcAbsx (o : Word) : Statement (.sbcAbsx o) := fixed 3 0xFD (by decide) rfl rfl
theorem incAbsx (o : Word) : Statement (.incAbsx o) := fixed 3 0xFE (by decide) rfl rfl
theorem sbcLongx (o : Addr) : Statement (.sbcLongx o) := fixed 4 0xFF (by decide) rfl rfl

end Sys2Proof.Laws.EncodedLength
end

