-- ==== Sys2Proof/Laws/Resume.lean ====
section
/-! SUPPORT. A byte of the DMA controller by its master clocks: eight clocks are the byte in one piece, so that what is left of
a suspended general DMA is what the whole of it would still have done (45_dma_hdma.md R451, R454). -/

namespace Sys2Proof.Machine

/-! ### Time and the clocks owed -/

/-- m rounds and then n. -/
theorem iterate_add (f : State → State) (m n : Nat) (s : State) : iterate f (m + n) s = iterate f n (iterate f m s) := by
  induction m generalizing s with
  | zero => simp [iterate]
  | succ m ih => rw [Nat.succ_add]; exact ih (f s)

theorem iterate_one (f : State → State) (s : State) : iterate f 1 s = f s := rfl
theorem iterate_three (f : State → State) (s : State) : iterate f 3 s = f (f (f s)) := rfl

/-- Rounds of f commute with what f commutes with. -/
theorem iterate_comm {f g : State → State} (h : ∀ s, f (g s) = g (f s)) (n : Nat) (s : State) :
    iterate f n (g s) = g (iterate f n s) := by
  induction n generalizing s with
  | zero => rfl
  | succ n ih => simp only [iterate]; rw [h, ih]

/-- The per-line events do not see the clocks the controller owes. -/
theorem lineEvents_owe (k : Nat) (s : State) : lineEvents (owe k s) = owe k (lineEvents s) := by
  have h1 : ∀ u, eventRefresh (owe k u) = owe k (eventRefresh u) := fun u => by
    unfold eventRefresh refreshDue owe; simp only; split <;> rfl
  have h2 : ∀ u, eventHdmaInit (owe k u) = owe k (eventHdmaInit u) := fun u => by
    unfold eventHdmaInit Dma.any owe; simp only; split
    · split <;> rfl
    · rfl
  have h3 : ∀ u, eventHdmaRun (owe k u) = owe k (eventHdmaRun u) := fun u => by
    unfold eventHdmaRun Dma.any owe; simp only; split
    · split <;> rfl
    · rfl
  have h4 : ∀ u, eventNmi (owe k u) = owe k (eventNmi u) := fun u => by
    unfold eventNmi owe; simp only; split <;> rfl
  have h5 : ∀ u, eventAutojoy (owe k u) = owe k (eventAutojoy u) := fun u => by
    unfold eventAutojoy owe; simp only; split <;> rfl
  have h6 : ∀ u, eventFrameStart (owe k u) = owe k (eventFrameStart u) := fun u => by
    unfold eventFrameStart owe; simp only; split <;> rfl
  unfold lineEvents
  rw [h1, h2, h3, h4, h5, h6]

theorem rasterCompare_owe (k : Nat) (s : State) : rasterCompare (owe k s) = owe k (rasterCompare s) := rfl
theorem advance_owe (k : Nat) (s : State) : advance (owe k s) = owe k (advance s) := rfl


theorem clockBare_owe (k : Nat) (s : State) : clockBare (owe k s) = owe k (clockBare s) := by
  unfold clockBare
  rw [advance_owe, lineEvents_owe, rasterCompare_owe]

theorem clock_owe (k : Nat) (s : State) : clock (owe k s) = owe k (clock s) := by
  unfold Machine.clock
  rw [clockBare_owe, iterate_comm (clockBare_owe k)]
  have h : refreshDue (advance (owe k s)) = refreshDue (advance s) := rfl
  rw [h]
  split <;> rfl

/-- Time does not depend on the clocks the controller owes. -/
theorem spend_owe (j k : Nat) (s : State) : spend j (owe k s) = owe k (spend j s) := iterate_comm (clock_owe k) j s

/-- Paying j of k clocks owed. -/
theorem pay_owe (j k : Nat) (s : State) : pay j (owe k s) = owe (k - j) (spend j s) := by
  unfold pay; rw [spend_owe]; rfl

/-- Time adds up. -/
theorem spend_add (j k : Nat) (s : State) : spend (j + k) s = spend k (spend j s) := iterate_add clock j k s

/-! ### Where the byte in progress goes -/

/-- What decides where a byte of channel n in progress comes from and goes to is the same in both states. -/
structure SameByte (n : Fin 8) (s t : State) : Prop where
  dmap : (t.ch n).dmap = (s.ch n).dmap
  bbad : (t.ch n).bbad = (s.ch n).bbad
  a1t : (t.ch n).a1t = (s.ch n).a1t
  a1b : (t.ch n).a1b = (s.ch n).a1b
  index : t.dma.index = s.dma.index
  resolve : t.bus.resolve = s.bus.resolve

theorem SameByte.refl (n : Fin 8) (s : State) : SameByte n s s := ⟨rfl, rfl, rfl, rfl, rfl, rfl⟩

theorem SameByte.trans {n : Fin 8} {s t u : State} (h : SameByte n s t) (k : SameByte n t u) : SameByte n s u :=
  ⟨k.1.trans h.1, k.2.trans h.2, k.3.trans h.3, k.4.trans h.4, k.5.trans h.5, k.6.trans h.6⟩

/-- A change of neither the engine nor the memory map. -/
theorem SameByte.of_dma {n : Fin 8} {s t : State} (hd : t.dma = s.dma) (hb : t.bus.resolve = s.bus.resolve) :
    SameByte n s t := by
  have hc : t.ch n = s.ch n := by unfold State.ch; rw [hd]
  exact ⟨by rw [hc], by rw [hc], by rw [hc], by rw [hc], by rw [hd], hb⟩

/-- The direction and both addresses of the byte in progress are then the same. -/
theorem SameByte.same {n : Fin 8} {s u : State} (h : SameByte n s u) :
    (u.ch n).toA = (s.ch n).toA ∧ bInProgress n u = bInProgress n s ∧ aInProgress n u = aInProgress n s := by
  unfold bInProgress aInProgress Channel.lastA1t Channel.bAddr Channel.toA Channel.mode Channel.fixed Channel.decrement
  rw [h.dmap, h.bbad, h.a1t, h.a1b, h.index]
  exact ⟨rfl, rfl, rfl⟩

theorem eventHdmaInit_sameByte (n : Fin 8) (s : State) : SameByte n s (eventHdmaInit s) := by
  unfold eventHdmaInit
  split
  · simp only
    split <;> (refine ⟨?_, ?_, ?_, ?_, rfl, rfl⟩ <;> (unfold State.ch; simp only [mapChannels_get]; rfl))
  · exact .refl n s

theorem eventHdmaRun_sameByte (n : Fin 8) (s : State) : SameByte n s (eventHdmaRun s) := by
  unfold eventHdmaRun
  split
  · simp only
    split <;> exact ⟨rfl, rfl, rfl, rfl, rfl, rfl⟩
  · exact .refl n s

theorem lineEvents_sameByte (n : Fin 8) (s : State) : SameByte n s (lineEvents s) := by
  have h1 : ∀ u, SameByte n u (eventRefresh u) := fun u => by unfold eventRefresh; split <;> exact .of_dma rfl rfl
  have h4 : ∀ u, SameByte n u (eventNmi u) := fun u => by unfold eventNmi; split <;> exact .of_dma rfl rfl
  have h5 : ∀ u, SameByte n u (eventAutojoy u) := fun u => by unfold eventAutojoy; split <;> exact .of_dma rfl rfl
  have h6 : ∀ u, SameByte n u (eventFrameStart u) := fun u => by unfold eventFrameStart; split <;> exact .of_dma rfl rfl
  exact (h1 s).trans <| (eventHdmaInit_sameByte n _).trans <| (eventHdmaRun_sameByte n _).trans <|
    (h4 _).trans <| (h5 _).trans (h6 _)

theorem clockBare_sameByte (n : Fin 8) (s : State) : SameByte n s (clockBare s) := by
  have h1 : SameByte n s (advance s) := .of_dma (advance_dma s) (congrArg Bus.resolve (advance_bus s))
  have h2 : ∀ u, SameByte n u (rasterCompare u) := fun u =>
    .of_dma (rasterCompare_dma u) (congrArg Bus.resolve (rasterCompare_bus u))
  unfold clockBare
  exact h1.trans ((lineEvents_sameByte n (advance s)).trans (h2 _))

/-- One master clock does not change where the byte in progress goes. -/
theorem clock_sameByte (n : Fin 8) (s : State) : SameByte n s (clock s) := by
  unfold Machine.clock
  split
  · exact (clockBare_sameByte n s).trans
      (iterate_keeps (P := SameByte n (clockBare s)) (fun u hu => hu.trans (clockBare_sameByte n u)) _ _ (.refl n _))
  · exact clockBare_sameByte n s

/-- Time does not change where the byte in progress goes. -/
theorem spend_sameByte (n : Fin 8) (k : Nat) (s : State) : SameByte n s (spend k s) :=
  iterate_keeps (P := SameByte n s) (fun u hu => hu.trans (clock_sameByte n u)) k s (.refl n s)

theorem owe_sameByte (n : Fin 8) (k : Nat) (s : State) : SameByte n s (owe k s) := ⟨rfl, rfl, rfl, rfl, rfl, rfl⟩

theorem busRead_resolve (a : Addr) (s : State) : (busRead a s).2.bus.resolve = s.bus.resolve := by
  rw [busRead_bus]; rfl

theorem busRead_sameByte (n : Fin 8) (a : Addr) (s : State) : SameByte n s (busRead a s).2 :=
  .of_dma (busRead_dma a s) (busRead_resolve a s)

/-- The read of a byte does not change where the byte goes. -/
theorem readHalf_sameByte (n : Fin 8) (toA : Bool) (b : Byte) (a : Addr) (s : State) :
    SameByte n s (readHalf toA b a s) := by
  unfold readHalf
  split
  · exact .refl n s
  · split
    · exact busRead_sameByte n _ s
    · unfold dmaRead
      split
      · exact busRead_sameByte n _ s
      · exact .refl n s

theorem readHalf_clocks (toA : Bool) (b : Byte) (a : Addr) (s : State) :
    (readHalf toA b a s).dma.clocks = s.dma.clocks := by
  unfold readHalf dmaRead
  split
  · rfl
  · split
    · rw [busRead_dma]
    · split
      · rw [busRead_dma]
      · rfl

/-! ### The byte -/

@[simp] theorem dmaUnitEvent_bus (s : State) : (dmaUnitEvent s).bus = s.bus := rfl
@[simp] theorem owe_bus (k : Nat) (s : State) : (owe k s).bus = s.bus := rfl

@[simp] theorem owe_dma_clocks (k : Nat) (s : State) : (owe k s).dma.clocks = k := rfl

theorem owe_owe (j k : Nat) (s : State) : owe j (owe k s) = owe j s := rfl

theorem owe_clocks (s : State) : owe s.dma.clocks s = s := rfl

/-- Paying j of the clocks a state owes. -/
theorem pay_clocks {s : State} {k : Nat} (h : s.dma.clocks = k) (j : Nat) : pay j s = owe (k - j) (spend j s) := by
  rw [← h, ← pay_owe, owe_clocks]

theorem dmaRead_clocks (a : Addr) (s : State) : (dmaRead a s).2.dma.clocks = s.dma.clocks := by
  unfold dmaRead
  split
  · rw [busRead_dma]
  · rfl

/-- The byte the second half writes is the byte the first half read. -/
theorem heldByte_toA (a c : Addr) {s u : State} (h : u.bus = (busRead c s).2.bus) : heldByte true a u = (busRead c s).1 := by
  unfold heldByte
  simp only [Bool.true_or, if_true]
  rw [h, busRead_bus]

/-- The same from the A-bus. -/
theorem heldByte_toB (a : Addr) {s u : State} (h : u.bus = (dmaRead a s).2.bus) : heldByte false a u = (dmaRead a s).1 := by
  unfold heldByte
  simp only [Bool.false_or]
  rw [h]
  unfold dmaRead
  split
  · rw [busRead_bus]
  · rfl

/-- The two halves of a byte, with the time between them, are `transfer`'s (R451). -/
theorem halves_eq (toA : Bool) (b : Byte) (a : Addr) (s : State) :
    writeHalf toA b a (dmaUnitEvent (owe 0 (spend 4 (readHalf toA b a (owe 4 (spend 4 s)))))) = transfer toA b a s := by
  have hc : ∀ u : State, u.bus.resolve = s.bus.resolve → wramConflict b a u = wramConflict b a s := fun u hu => by
    unfold wramConflict; rw [hu]
  have hr : (owe 4 (spend 4 s)).bus.resolve = s.bus.resolve := by rw [owe_bus, spend_bus]
  have hp : ∀ u, (dmaUnitEvent (owe 0 (spend 4 u))).bus = u.bus := fun u => by
    rw [dmaUnitEvent_bus, owe_bus, spend_bus]
  have hw : (dmaUnitEvent (owe 0 (spend 4 (readHalf toA b a (owe 4 (spend 4 s)))))).bus.resolve = s.bus.resolve := by
    rw [hp]; exact ((readHalf_sameByte 0 toA b a _).resolve).trans hr
  have h0 : wramConflict b a (owe Config.dmaByteClocks s) = wramConflict b a s := hc _ rfl
  have h4 : pay 4 (owe Config.dmaByteClocks s) = owe 4 (spend 4 s) := pay_owe 4 8 s
  have hu : ∀ u : State, u.dma.clocks = 4 → payUnit 4 u = dmaUnitEvent (owe 0 (spend 4 u)) := fun u h => by
    unfold payUnit; rw [pay_clocks h]
  unfold transfer writeHalf
  rw [hc _ hw]
  simp only [h0]
  unfold readHalf
  rw [hc _ hr]
  generalize hX : owe 4 (spend 4 s) = X at *
  have hX4 : X.dma.clocks = 4 := by rw [← hX]; rfl
  cases hx : wramConflict b a s
  · simp only [Bool.false_eq_true, if_false]
    cases toA
    · simp only [Bool.false_eq_true, if_false]
      unfold byteToB
      simp only [h4]
      rw [hu _ ((dmaRead_clocks a X).trans hX4), heldByte_toB a (hp _)]
    · simp only [if_true]
      unfold byteToA
      simp only [h4]
      rw [hu _ ((congrArg Dma.clocks (busRead_dma (bBus b) X)).trans hX4), heldByte_toA a (bBus b) (hp _)]
  · simp only [if_true]
    have h8 : pay 8 (owe Config.dmaByteClocks s) = owe 0 (spend 8 s) := pay_owe 8 8 s
    have h9 : owe 0 (spend 4 X) = pay 8 (owe Config.dmaByteClocks s) := by
      rw [h8, ← hX, spend_owe, ← spend_add, owe_owe]
    rw [h9]
    unfold conflictByte payUnit
    generalize dmaUnitEvent (pay 8 (owe Config.dmaByteClocks s)) = Y
    cases toA <;> rfl

/-- The clocks of a byte at which nothing is read or written. -/
theorem byteClock_plain {n : Fin 8} {s : State} {k : Nat} (h : s.dma.clocks = k + 1) (h4 : k ≠ 4) (h0 : k ≠ 0) :
    byteClock n s = owe k (spend 1 s) := by
  unfold byteClock
  rw [pay_clocks h]
  simp only [Nat.add_sub_cancel, owe_dma_clocks]
  rw [if_neg h4, if_neg h0]

/-- Three such clocks. -/
theorem byteClock_three {n : Fin 8} {s : State} {k : Nat} (h : s.dma.clocks = k + 3) (h4 : k ≠ 4 ∧ k + 1 ≠ 4 ∧ k + 2 ≠ 4)
    (h0 : k ≠ 0) : iterate (byteClock n) 3 s = owe k (spend 3 s) := by
  have e1 : byteClock n s = owe (k + 2) (spend 1 s) := byteClock_plain h h4.2.2 (by omega)
  have e2 : byteClock n (byteClock n s) = owe (k + 1) (spend 2 s) := by
    rw [e1, byteClock_plain (k := k + 1) rfl h4.2.1 (by omega), spend_owe, owe_owe, ← spend_add]
  rw [iterate_three, e2, byteClock_plain (k := k) rfl h4.1 h0, spend_owe, owe_owe, ← spend_add]

/-- The eighth clock of a byte ends it, and the fourth reads it. -/
theorem byteClocks_eight {n : Fin 8} {s : State} (h : s.dma.clocks = 8) :
    iterate (byteClock n) 8 s = endByte n (owe 0 (spend 4
      (readHalf (s.ch n).toA (bInProgress n s) (aInProgress n s) (owe 4 (spend 4 s))))) := by
  have e4 : iterate (byteClock n) 4 s =
      readHalf (s.ch n).toA (bInProgress n s) (aInProgress n s) (owe 4 (spend 4 s)) := by
    have e3 : iterate (byteClock n) 3 s = owe 5 (spend 3 s) := byteClock_three (k := 5) h (by omega) (by omega)
    rw [iterate_add (byteClock n) 3 1 s, e3, iterate_one]
    have hu : SameByte n s (owe 4 (spend 4 s)) := (spend_sameByte n 4 s).trans (owe_sameByte n 4 _)
    have hp : pay 1 (owe 5 (spend 3 s)) = owe 4 (spend 4 s) := by rw [pay_owe, ← spend_add]
    unfold byteClock
    rw [hp]
    simp only [owe_dma_clocks, if_true]
    rw [hu.same.1, hu.same.2.1, hu.same.2.2]
  rw [iterate_add (byteClock n) 4 4 s, e4]
  generalize hX : readHalf (s.ch n).toA (bInProgress n s) (aInProgress n s) (owe 4 (spend 4 s)) = X
  have hX4 : X.dma.clocks = 4 := by rw [← hX, readHalf_clocks]; rfl
  rw [iterate_add (byteClock n) 3 1 X, byteClock_three (k := 1) hX4 (by omega) (by omega), iterate_one]
  have hp : pay 1 (owe 1 (spend 3 X)) = owe 0 (spend 4 X) := by rw [pay_owe, ← spend_add]
  unfold byteClock
  rw [hp]
  simp only [owe_dma_clocks]
  rw [if_neg (by decide), if_pos trivial]

/-- The register that has moved past a byte still says where the byte is. -/
theorem lastA1t_next (c : Channel) : Channel.lastA1t { c with a1t := c.nextA1t } = c.a1t := by
  unfold Channel.lastA1t Channel.nextA1t Channel.fixed Channel.decrement
  split
  · rfl
  · split
    · exact BitVec.sub_add_cancel _ _
    · exact BitVec.add_sub_cancel _ _

/-- A byte by its clocks (R454) is the byte in one piece (R448): its reads, its writes and its time. -/
theorem byteClocks_eq (n : Fin 8) (s : State) :
    iterate (byteClock n) 8 (startByte n s) =
      let t := serviceHdma (dmaByte n s)
      if decide ((t.ch n).das = 0) then t.updCh n (fun c => { c with dmaEnabled := false }) else t := by
  have hch : (startByte n s).ch n = { s.ch n with a1t := (s.ch n).nextA1t } :=
    updCh_ch_self s n (fun c => { c with a1t := c.nextA1t })
  have ha : aInProgress n (startByte n s) = long (s.ch n).a1b (s.ch n).a1t := by
    unfold aInProgress; rw [hch, lastA1t_next]
  have hb : bInProgress n (startByte n s) = (s.ch n).bAddr s.dma.index := by
    have hi : (startByte n s).dma.index - 1 = s.dma.index := rfl
    unfold bInProgress; rw [hch, hi]; rfl
  have ht : ((startByte n s).ch n).toA = (s.ch n).toA := by rw [hch]; rfl
  rw [byteClocks_eight rfl, ha, hb, ht]
  generalize hX : owe 0 (spend 4 (readHalf (s.ch n).toA ((s.ch n).bAddr s.dma.index) (long (s.ch n).a1b (s.ch n).a1t)
    (owe 4 (spend 4 (startByte n s))))) = X
  have hs : SameByte n (startByte n s) X := by
    rw [← hX]
    exact (spend_sameByte n 4 _).trans <| (owe_sameByte n 4 _).trans <| (readHalf_sameByte n _ _ _ _).trans <|
      (spend_sameByte n 4 _).trans (owe_sameByte n 0 _)
  have h1 := hs.same
  unfold endByte
  rw [h1.1, h1.2.1, h1.2.2, ha, hb, ht, ← hX, halves_eq, dmaByte_eq]
  rfl

/-- A clock more of a byte in progress leaves the same to be done (R454). -/
theorem dmaResume_byteClock {s : State} {k : Nat} (h : s.dma.clocks = k + 1)
    (hk : (byteClock s.dma.channel s).dma.clocks = k) (hc : (byteClock s.dma.channel s).dma.channel = s.dma.channel) :
    dmaResume (byteClock s.dma.channel s) = dmaResume s := by
  unfold dmaResume
  rw [hk, hc, h]
  rfl

end Sys2Proof.Machine
end

