-- ==== Sys2Proof/Laws/Run.lean ====
section
/-! SUPPORT. What a run quantum of the host is: some steps one after another, the last of them the first in which the quantum
is over (60_exceptions.md R597). -/

namespace Sys2Proof.Machine

/-- t is s after k steps, none but the last of which ends a quantum. -/
def After : Nat → State → State → Prop
  | 0, s, t => s = t
  | k + 1, s, t => ∃ u, step s = .next u ∧ (k ≠ 0 → u.clk.quantumOver = false) ∧ After k u t

/-- Everything the scheduler's loop can do when it answers a state. -/
theorem runSteps_next {n : Nat} {s t : State} (h : runSteps n s = .next t) :
    ∃ k ≤ n, After k s t ∧ (k = n ∨ t.clk.quantumOver = true) := by
  induction n generalizing s with
  | zero =>
    simp only [runSteps, Host.Outcome.next.injEq] at h
    exact ⟨0, le_refl 0, h, .inl rfl⟩
  | succ n ih =>
    unfold runSteps at h
    cases hs : step s with
    | next u =>
      simp only [hs] at h
      by_cases hq : u.clk.quantumOver = true
      · rw [if_pos hq, Host.Outcome.next.injEq] at h
        exact ⟨1, by omega, ⟨u, hs, fun h => absurd rfl h, h⟩, .inr (h ▸ hq)⟩
      · rw [if_neg hq] at h
        obtain ⟨k, hk, ha, he⟩ := ih h
        refine ⟨k + 1, by omega, ⟨u, hs, fun _ => by simpa using hq, ha⟩, ?_⟩
        rcases he with he | he
        · exact .inl (by omega)
        · exact .inr he
    | fault f => simp [hs] at h
    | refused r => simp [hs] at h

end Sys2Proof.Machine
end

