-- ==== Sys2Proof/Tests/Slice0.lean ====
section
/-! SUPPORT. Tests of single steps against the examples and tables of the spec (each cites its rule or its section of
95_test_vectors.md), instruction words written out from 30_encoding.md, the smoke test of WellFormed, and for every statement with
hypotheses a witness that meets them. -/

namespace Sys2Proof.Tests

open Sys2Proof.Machine
open Sys2Proof.Claims

/-! ### Small states -/

/-- A content with the bytes of a list from an index on. -/
def putBytes : Nat → List Byte → List Host.Cell → List Host.Cell
  | _, [], m => m
  | i, v :: l, m => putBytes (i + 1) l (Memory.write m i v)

/-- The content that holds each list of bytes from its index on. -/
def content : List (Nat × List Byte) → List Host.Cell
  | [] => []
  | p :: l => putBytes p.1 p.2 (content l)

/-- The registers after the reset sequence (R622). -/
def emu : Cpu := State.reset.cpu

/-- Native mode with the given P. -/
def native (p : Nat) : Cpu := { emu with e := false, p := statusOf p }

/-- A machine with no reset due, on line 1, with these registers and this work RAM. -/
def machine (c : Cpu) (ram : List (Nat × List Byte)) : State :=
  { State.reset with
    cpu := c
    clk := { State.reset.clk with vcounter := 1 }
    intr := { State.reset.intr with resetPending := false }
    bus := { State.reset.bus with wram := content ram } }

/-- A cartridge of 32 KiB at bank 0x00, offsets 0x8000 to 0xFFFF (95_test_vectors.md section 12), its bytes by address. -/
def harness (rom : List (Nat × List Byte)) : Cart :=
  { devices := [{ size := 0x8000, patchable := false, writeProtect := false
                  cells := content (rom.map (fun p => (p.1 - 0x8000, p.2))) }]
    maps := [{ mode := .linear, bankLo := 0, bankHi := 0, addrLo := 0x8000, addrHi := 0xFFFF, dev := .cart 0
               offset := 0, size := 0 }]
    claims := []
    coprocs := [] }

/-- The machine with that cartridge. -/
def withRom (rom : List (Nat × List Byte)) (s : State) : State :=
  { s with bus := s.bus.install (harness rom).devices (some (harness rom)) }

/-- The state after one step, where the step answers one. -/
def after (s : State) : State :=
  match step s with
  | .next t => t
  | .fault _ => s
  | .refused _ => s

/-- The byte of work RAM at an index. -/
def ram (s : State) (i : Nat) : Byte := Memory.read s.bus.wram i

/-- P as a number. -/
def pOf (s : State) : Nat := statusByte s.cpu.p

/-- The master clocks a step takes. -/
def clocks (s : State) : Nat := (after s).clk.clockCount - s.clk.clockCount

/-! ### WellFormed: each check refuses an ill-formed term (R172) -/

theorem wf_refuses_wide_accumulator_immediate : Instr.wf true true (.ldaImm (.w16 0x1234)) = false := by decide
theorem wf_refuses_narrow_accumulator_immediate : Instr.wf false true (.adcImm (.b8 0x12)) = false := by decide
theorem wf_refuses_wide_index_immediate : Instr.wf true true (.ldxImm (.w16 0x1234)) = false := by decide
theorem wf_refuses_narrow_index_immediate : Instr.wf true false (.cpyImm (.b8 0x12)) = false := by decide
theorem wf_admits_both_widths :
    Instr.wf true false (.ldaImm (.b8 0x12)) = true ∧ Instr.wf true false (.ldxImm (.w16 0x1234)) = true ∧
    Instr.wf false true (.pea 0x1234) = true := by decide

/-! ### Every constructor's decoding, from a word written out bit by bit from R171 to R183 (modes: P.M = P.X = 1) -/

theorem decode_words_0x :
    decode true true [0b00000000, 0b01000000] = .ok (.brk 0x40, []) ∧
    decode true true [0b00000001, 0b01000001] = .ok (.oraDpxind 0x41, []) ∧
    decode true true [0b00000010, 0b01000010] = .ok (.cop 0x42, []) ∧
    decode true true [0b00000011, 0b01000011] = .ok (.oraSr 0x43, []) ∧
    decode true true [0b00000100, 0b01000100] = .ok (.tsbDp 0x44, []) ∧
    decode true true [0b00000101, 0b01000101] = .ok (.oraDp 0x45, []) ∧
    decode true true [0b00000110, 0b01000110] = .ok (.aslDp 0x46, []) ∧
    decode true true [0b00000111, 0b01000111] = .ok (.oraDpindl 0x47, []) ∧
    decode true true [0b00001000] = .ok (.php, []) ∧
    decode true true [0b00001001, 0b01001001] = .ok (.oraImm (.b8 0x49), []) ∧
    decode true true [0b00001010] = .ok (.aslAcc, []) ∧
    decode true true [0b00001011] = .ok (.phd, []) ∧
    decode true true [0b00001100, 0b01001100, 0b10011010] = .ok (.tsbAbs 0x9A4C, []) ∧
    decode true true [0b00001101, 0b01001101, 0b10011010] = .ok (.oraAbs 0x9A4D, []) ∧
    decode true true [0b00001110, 0b01001110, 0b10011010] = .ok (.aslAbs 0x9A4E, []) ∧
    decode true true [0b00001111, 0b01001111, 0b10011010, 0b01011110] = .ok (.oraLong 0x5E9A4F, []) :=
  ⟨rfl, rfl, rfl, rfl, rfl, rfl, rfl, rfl, rfl, rfl, rfl, rfl, rfl, rfl, rfl, rfl⟩

theorem decode_words_1x :
    decode true true [0b00010000, 0b01000000] = .ok (.bpl 0x40, []) ∧
    decode true true [0b00010001, 0b01000001] = .ok (.oraDpindy 0x41, []) ∧
    decode true true [0b00010010, 0b01000010] = .ok (.oraDpind 0x42, []) ∧
    decode true true [0b00010011, 0b01000011] = .ok (.oraSrindy 0x43, []) ∧
    decode true true [0b00010100, 0b01000100] = .ok (.trbDp 0x44, []) ∧
    decode true true [0b00010101, 0b01000101] = .ok (.oraDpx 0x45, []) ∧
    decode true true [0b00010110, 0b01000110] = .ok (.aslDpx 0x46, []) ∧
    decode true true [0b00010111, 0b01000111] = .ok (.oraDpindly 0x47, []) ∧
    decode true true [0b00011000] = .ok (.clc, []) ∧
    decode true true [0b00011001, 0b01001001, 0b10011010] = .ok (.oraAbsy 0x9A49, []) ∧
    decode true true [0b00011010] = .ok (.incAcc, []) ∧
    decode true true [0b00011011] = .ok (.tcs, []) ∧
    decode true true [0b00011100, 0b01001100, 0b10011010] = .ok (.trbAbs 0x9A4C, []) ∧
    decode true true [0b00011101, 0b01001101, 0b10011010] = .ok (.oraAbsx 0x9A4D, []) ∧
    decode true true [0b00011110, 0b01001110, 0b10011010] = .ok (.aslAbsx 0x9A4E, []) ∧
    decode true true [0b00011111, 0b01001111, 0b10011010, 0b01011110] = .ok (.oraLongx 0x5E9A4F, []) :=
  ⟨rfl, rfl, rfl, rfl, rfl, rfl, rfl, rfl, rfl, rfl, rfl, rfl, rfl, rfl, rfl, rfl⟩

theorem decode_words_2x :
    decode true true [0b00100000, 0b01000000, 0b10011010] = .ok (.jsrAbs 0x9A40, []) ∧
    decode true true [0b00100001, 0b01000001] = .ok (.andDpxind 0x41, []) ∧
    decode true true [0b00100010, 0b01000010, 0b10011010, 0b01011110] = .ok (.jsl 0x5E9A42, []) ∧
    decode true true [0b00100011, 0b01000011] = .ok (.andSr 0x43, []) ∧
    decode true true [0b00100100, 0b01000100] = .ok (.bitDp 0x44, []) ∧
    decode true true [0b00100101, 0b01000101] = .ok (.andDp 0x45, []) ∧
    decode true true [0b00100110, 0b01000110] = .ok (.rolDp 0x46, []) ∧
    decode true true [0b00100111, 0b01000111] = .ok (.andDpindl 0x47, []) ∧
    decode true true [0b00101000] = .ok (.plp, []) ∧
    decode true true [0b00101001, 0b01001001] = .ok (.andImm (.b8 0x49), []) ∧
    decode true true [0b00101010] = .ok (.rolAcc, []) ∧
    decode true true [0b00101011] = .ok (.pld, []) ∧
    decode true true [0b00101100, 0b01001100, 0b10011010] = .ok (.bitAbs 0x9A4C, []) ∧
    decode true true [0b00101101, 0b01001101, 0b10011010] = .ok (.andAbs 0x9A4D, []) ∧
    decode true true [0b00101110, 0b01001110, 0b10011010] = .ok (.rolAbs 0x9A4E, []) ∧
    decode true true [0b00101111, 0b01001111, 0b10011010, 0b01011110] = .ok (.andLong 0x5E9A4F, []) :=
  ⟨rfl, rfl, rfl, rfl, rfl, rfl, rfl, rfl, rfl, rfl, rfl, rfl, rfl, rfl, rfl, rfl⟩

theorem decode_words_3x :
    decode true true [0b00110000, 0b01000000] = .ok (.bmi 0x40, []) ∧
    decode true true [0b00110001, 0b01000001] = .ok (.andDpindy 0x41, []) ∧
    decode true true [0b00110010, 0b01000010] = .ok (.andDpind 0x42, []) ∧
    decode true true [0b00110011, 0b01000011] = .ok (.andSrindy 0x43, []) ∧
    decode true true [0b00110100, 0b01000100] = .ok (.bitDpx 0x44, []) ∧
    decode true true [0b00110101, 0b01000101] = .ok (.andDpx 0x45, []) ∧
    decode true true [0b00110110, 0b01000110] = .ok (.rolDpx 0x46, []) ∧
    decode true true [0b00110111, 0b01000111] = .ok (.andDpindly 0x47, []) ∧
    decode true true [0b00111000] = .ok (.sec, []) ∧
    decode true true [0b00111001, 0b01001001, 0b10011010] = .ok (.andAbsy 0x9A49, []) ∧
    decode true true [0b00111010] = .ok (.decAcc, []) ∧
    decode true true [0b00111011] = .ok (.tsc, []) ∧
    decode true true [0b00111100, 0b01001100, 0b10011010] = .ok (.bitAbsx 0x9A4C, []) ∧
    decode true true [0b00111101, 0b01001101, 0b10011010] = .ok (.andAbsx 0x9A4D, []) ∧
    decode true true [0b00111110, 0b01001110, 0b10011010] = .ok (.rolAbsx 0x9A4E, []) ∧
    decode true true [0b00111111, 0b01001111, 0b10011010, 0b01011110] = .ok (.andLongx 0x5E9A4F, []) :=
  ⟨rfl, rfl, rfl, rfl, rfl, rfl, rfl, rfl, rfl, rfl, rfl, rfl, rfl, rfl, rfl, rfl⟩

theorem decode_words_4x :
    decode true true [0b01000000] = .ok (.rti, []) ∧
    decode true true [0b01000001, 0b01000001] = .ok (.eorDpxind 0x41, []) ∧
    decode true true [0b01000010, 0b01000010] = .ok (.wdm 0x42, []) ∧
    decode true true [0b01000011, 0b01000011] = .ok (.eorSr 0x43, []) ∧
    decode true true [0b01000100, 0b01000100, 0b01111110] = .ok (.mvp 0x44 0x7E, []) ∧
    decode true true [0b01000101, 0b01000101] = .ok (.eorDp 0x45, []) ∧
    decode true true [0b01000110, 0b01000110] = .ok (.lsrDp 0x46, []) ∧
    decode true true [0b01000111, 0b01000111] = .ok (.eorDpindl 0x47, []) ∧
    decode true true [0b01001000] = .ok (.pha, []) ∧
    decode true true [0b01001001, 0b01001001] = .ok (.eorImm (.b8 0x49), []) ∧
    decode true true [0b01001010] = .ok (.lsrAcc, []) ∧
    decode true true [0b01001011] = .ok (.phk, []) ∧
    decode true true [0b01001100, 0b01001100, 0b10011010] = .ok (.jmpAbs 0x9A4C, []) ∧
    decode true true [0b01001101, 0b01001101, 0b10011010] = .ok (.eorAbs 0x9A4D, []) ∧
    decode true true [0b01001110, 0b01001110, 0b10011010] = .ok (.lsrAbs 0x9A4E, []) ∧
    decode true true [0b01001111, 0b01001111, 0b10011010, 0b01011110] = .ok (.eorLong 0x5E9A4F, []) :=
  ⟨rfl, rfl, rfl, rfl, rfl, rfl, rfl, rfl, rfl, rfl, rfl, rfl, rfl, rfl, rfl, rfl⟩

theorem decode_words_5x :
    decode true true [0b01010000, 0b01000000] = .ok (.bvc 0x40, []) ∧
    decode true true [0b01010001, 0b01000001] = .ok (.eorDpindy 0x41, []) ∧
    decode true true [0b01010010, 0b01000010] = .ok (.eorDpind 0x42, []) ∧
    decode true true [0b01010011, 0b01000011] = .ok (.eorSrindy 0x43, []) ∧
    decode true true [0b01010100, 0b01000100, 0b01111110] = .ok (.mvn 0x44 0x7E, []) ∧
    decode true true [0b01010101, 0b01000101] = .ok (.eorDpx 0x45, []) ∧
    decode true true [0b01010110, 0b01000110] = .ok (.lsrDpx 0x46, []) ∧
    decode true true [0b01010111, 0b01000111] = .ok (.eorDpindly 0x47, []) ∧
    decode true true [0b01011000] = .ok (.cli, []) ∧
    decode true true [0b01011001, 0b01001001, 0b10011010] = .ok (.eorAbsy 0x9A49, []) ∧
    decode true true [0b01011010] = .ok (.phy, []) ∧
    decode true true [0b01011011] = .ok (.tcd, []) ∧
    decode true true [0b01011100, 0b01001100, 0b10011010, 0b01011110] = .ok (.jmlLong 0x5E9A4C, []) ∧
    decode true true [0b01011101, 0b01001101, 0b10011010] = .ok (.eorAbsx 0x9A4D, []) ∧
    decode true true [0b01011110, 0b01001110, 0b10011010] = .ok (.lsrAbsx 0x9A4E, []) ∧
    decode true true [0b01011111, 0b01001111, 0b10011010, 0b01011110] = .ok (.eorLongx 0x5E9A4F, []) :=
  ⟨rfl, rfl, rfl, rfl, rfl, rfl, rfl, rfl, rfl, rfl, rfl, rfl, rfl, rfl, rfl, rfl⟩

theorem decode_words_6x :
    decode true true [0b01100000] = .ok (.rts, []) ∧
    decode true true [0b01100001, 0b01000001] = .ok (.adcDpxind 0x41, []) ∧
    decode true true [0b01100010, 0b01000010, 0b10011010] = .ok (.per 0x9A42, []) ∧
    decode true true [0b01100011, 0b01000011] = .ok (.adcSr 0x43, []) ∧
    decode true true [0b01100100, 0b01000100] = .ok (.stzDp 0x44, []) ∧
    decode true true [0b01100101, 0b01000101] = .ok (.adcDp 0x45, []) ∧
    decode true true [0b01100110, 0b01000110] = .ok (.rorDp 0x46, []) ∧
    decode true true [0b01100111, 0b01000111] = .ok (.adcDpindl 0x47, []) ∧
    decode true true [0b01101000] = .ok (.pla, []) ∧
    decode true true [0b01101001, 0b01001001] = .ok (.adcImm (.b8 0x49), []) ∧
    decode true true [0b01101010] = .ok (.rorAcc, []) ∧
    decode true true [0b01101011] = .ok (.rtl, []) ∧
    decode true true [0b01101100, 0b01001100, 0b10011010] = .ok (.jmpAbsind 0x9A4C, []) ∧
    decode true true [0b01101101, 0b01001101, 0b10011010] = .ok (.adcAbs 0x9A4D, []) ∧
    decode true true [0b01101110, 0b01001110, 0b10011010] = .ok (.rorAbs 0x9A4E, []) ∧
    decode true true [0b01101111, 0b01001111, 0b10011010, 0b01011110] = .ok (.adcLong 0x5E9A4F, []) :=
  ⟨rfl, rfl, rfl, rfl, rfl, rfl, rfl, rfl, rfl, rfl, rfl, rfl, rfl, rfl, rfl, rfl⟩

theorem decode_words_7x :
    decode true true [0b01110000, 0b01000000] = .ok (.bvs 0x40, []) ∧
    decode true true [0b01110001, 0b01000001] = .ok (.adcDpindy 0x41, []) ∧
    decode true true [0b01110010, 0b01000010] = .ok (.adcDpind 0x42, []) ∧
    decode true true [0b01110011, 0b01000011] = .ok (.adcSrindy 0x43, []) ∧
    decode true true [0b01110100, 0b01000100] = .ok (.stzDpx 0x44, []) ∧
    decode true true [0b01110101, 0b01000101] = .ok (.adcDpx 0x45, []) ∧
    decode true true [0b01110110, 0b01000110] = .ok (.rorDpx 0x46, []) ∧
    decode true true [0b01110111, 0b01000111] = .ok (.adcDpindly 0x47, []) ∧
    decode true true [0b01111000] = .ok (.sei, []) ∧
    decode true true [0b01111001, 0b01001001, 0b10011010] = .ok (.adcAbsy 0x9A49, []) ∧
    decode true true [0b01111010] = .ok (.ply, []) ∧
    decode true true [0b01111011] = .ok (.tdc, []) ∧
    decode true true [0b01111100, 0b01001100, 0b10011010] = .ok (.jmpAbsxind 0x9A4C, []) ∧
    decode true true [0b01111101, 0b01001101, 0b10011010] = .ok (.adcAbsx 0x9A4D, []) ∧
    decode true true [0b01111110, 0b01001110, 0b10011010] = .ok (.rorAbsx 0x9A4E, []) ∧
    decode true true [0b01111111, 0b01001111, 0b10011010, 0b01011110] = .ok (.adcLongx 0x5E9A4F, []) :=
  ⟨rfl, rfl, rfl, rfl, rfl, rfl, rfl, rfl, rfl, rfl, rfl, rfl, rfl, rfl, rfl, rfl⟩

theorem decode_words_8x :
    decode true true [0b10000000, 0b01000000] = .ok (.bra 0x40, []) ∧
    decode true true [0b10000001, 0b01000001] = .ok (.staDpxind 0x41, []) ∧
    decode true true [0b10000010, 0b01000010, 0b10011010] = .ok (.brl 0x9A42, []) ∧
    decode true true [0b10000011, 0b01000011] = .ok (.staSr 0x43, []) ∧
    decode true true [0b10000100, 0b01000100] = .ok (.styDp 0x44, []) ∧
    decode true true [0b10000101, 0b01000101] = .ok (.staDp 0x45, []) ∧
    decode true true [0b10000110, 0b01000110] = .ok (.stxDp 0x46, []) ∧
    decode true true [0b10000111, 0b01000111] = .ok (.staDpindl 0x47, []) ∧
    decode true true [0b10001000] = .ok (.dey, []) ∧
    decode true true [0b10001001, 0b01001001] = .ok (.bitImm (.b8 0x49), []) ∧
    decode true true [0b10001010] = .ok (.txa, []) ∧
    decode true true [0b10001011] = .ok (.phb, []) ∧
    decode true true [0b10001100, 0b01001100, 0b10011010] = .ok (.styAbs 0x9A4C, []) ∧
    decode true true [0b10001101, 0b01001101, 0b10011010] = .ok (.staAbs 0x9A4D, []) ∧
    decode true true [0b10001110, 0b01001110, 0b10011010] = .ok (.stxAbs 0x9A4E, []) ∧
    decode true true [0b10001111, 0b01001111, 0b10011010, 0b01011110] = .ok (.staLong 0x5E9A4F, []) :=
  ⟨rfl, rfl, rfl, rfl, rfl, rfl, rfl, rfl, rfl, rfl, rfl, rfl, rfl, rfl, rfl, rfl⟩

theorem decode_words_9x :
    decode true true [0b10010000, 0b01000000] = .ok (.bcc 0x40, []) ∧
    decode true true [0b10010001, 0b01000001] = .ok (.staDpindy 0x41, []) ∧
    decode true true [0b10010010, 0b01000010] = .ok (.staDpind 0x42, []) ∧
    decode true true [0b10010011, 0b01000011] = .ok (.staSrindy 0x43, []) ∧
    decode true true [0b10010100, 0b01000100] = .ok (.styDpx 0x44, []) ∧
    decode true true [0b10010101, 0b01000101] = .ok (.staDpx 0x45, []) ∧
    decode true true [0b10010110, 0b01000110] = .ok (.stxDpy 0x46, []) ∧
    decode true true [0b10010111, 0b01000111] = .ok (.staDpindly 0x47, []) ∧
    decode true true [0b10011000] = .ok (.tya, []) ∧
    decode true true [0b10011001, 0b01001001, 0b10011010] = .ok (.staAbsy 0x9A49, []) ∧
    decode true true [0b10011010] = .ok (.txs, []) ∧
    decode true true [0b10011011] = .ok (.txy, []) ∧
    decode true true [0b10011100, 0b01001100, 0b10011010] = .ok (.stzAbs 0x9A4C, []) ∧
    decode true true [0b10011101, 0b01001101, 0b10011010] = .ok (.staAbsx 0x9A4D, []) ∧
    decode true true [0b10011110, 0b01001110, 0b10011010] = .ok (.stzAbsx 0x9A4E, []) ∧
    decode true true [0b10011111, 0b01001111, 0b10011010, 0b01011110] = .ok (.staLongx 0x5E9A4F, []) :=
  ⟨rfl, rfl, rfl, rfl, rfl, rfl, rfl, rfl, rfl, rfl, rfl, rfl, rfl, rfl, rfl, rfl⟩

theorem decode_words_Ax :
    decode true true [0b10100000, 0b01000000] = .ok (.ldyImm (.b8 0x40), []) ∧
    decode true true [0b10100001, 0b01000001] = .ok (.ldaDpxind 0x41, []) ∧
    decode true true [0b10100010, 0b01000010] = .ok (.ldxImm (.b8 0x42), []) ∧
    decode true true [0b10100011, 0b01000011] = .ok (.ldaSr 0x43, []) ∧
    decode true true [0b10100100, 0b01000100] = .ok (.ldyDp 0x44, []) ∧
    decode true true [0b10100101, 0b01000101] = .ok (.ldaDp 0x45, []) ∧
    decode true true [0b10100110, 0b01000110] = .ok (.ldxDp 0x46, []) ∧
    decode true true [0b10100111, 0b01000111] = .ok (.ldaDpindl 0x47, []) ∧
    decode true true [0b10101000] = .ok (.tay, []) ∧
    decode true true [0b10101001, 0b01001001] = .ok (.ldaImm (.b8 0x49), []) ∧
    decode true true [0b10101010] = .ok (.tax, []) ∧
    decode true true [0b10101011] = .ok (.plb, []) ∧
    decode true true [0b10101100, 0b01001100, 0b10011010] = .ok (.ldyAbs 0x9A4C, []) ∧
    decode true true [0b10101101, 0b01001101, 0b10011010] = .ok (.ldaAbs 0x9A4D, []) ∧
    decode true true [0b10101110, 0b01001110, 0b10011010] = .ok (.ldxAbs 0x9A4E, []) ∧
    decode true true [0b10101111, 0b01001111, 0b10011010, 0b01011110] = .ok (.ldaLong 0x5E9A4F, []) :=
  ⟨rfl, rfl, rfl, rfl, rfl, rfl, rfl, rfl, rfl, rfl, rfl, rfl, rfl, rfl, rfl, rfl⟩

theorem decode_words_Bx :
    decode true true [0b10110000, 0b01000000] = .ok (.bcs 0x40, []) ∧
    decode true true [0b10110001, 0b01000001] = .ok (.ldaDpindy 0x41, []) ∧
    decode true true [0b10110010, 0b01000010] = .ok (.ldaDpind 0x42, []) ∧
    decode true true [0b10110011, 0b01000011] = .ok (.ldaSrindy 0x43, []) ∧
    decode true true [0b10110100, 0b01000100] = .ok (.ldyDpx 0x44, []) ∧
    decode true true [0b10110101, 0b01000101] = .ok (.ldaDpx 0x45, []) ∧
    decode true true [0b10110110, 0b01000110] = .ok (.ldxDpy 0x46, []) ∧
    decode true true [0b10110111, 0b01000111] = .ok (.ldaDpindly 0x47, []) ∧
    decode true true [0b10111000] = .ok (.clv, []) ∧
    decode true true [0b10111001, 0b01001001, 0b10011010] = .ok (.ldaAbsy 0x9A49, []) ∧
    decode true true [0b10111010] = .ok (.tsx, []) ∧
    decode true true [0b10111011] = .ok (.tyx, []) ∧
    decode true true [0b10111100, 0b01001100, 0b10011010] = .ok (.ldyAbsx 0x9A4C, []) ∧
    decode true true [0b10111101, 0b01001101, 0b10011010] = .ok (.ldaAbsx 0x9A4D, []) ∧
    decode true true [0b10111110, 0b01001110, 0b10011010] = .ok (.ldxAbsy 0x9A4E, []) ∧
    decode true true [0b10111111, 0b01001111, 0b10011010, 0b01011110] = .ok (.ldaLongx 0x5E9A4F, []) :=
  ⟨rfl, rfl, rfl, rfl, rfl, rfl, rfl, rfl, rfl, rfl, rfl, rfl, rfl, rfl, rfl, rfl⟩

theorem decode_words_Cx :
    decode true true [0b11000000, 0b01000000] = .ok (.cpyImm (.b8 0x40), []) ∧
    decode true true [0b11000001, 0b01000001] = .ok (.cmpDpxind 0x41, []) ∧
    decode true true [0b11000010, 0b01000010] = .ok (.rep 0x42, []) ∧
    decode true true [0b11000011, 0b01000011] = .ok (.cmpSr 0x43, []) ∧
    decode true true [0b11000100, 0b01000100] = .ok (.cpyDp 0x44, []) ∧
    decode true true [0b11000101, 0b01000101] = .ok (.cmpDp 0x45, []) ∧
    decode true true [0b11000110, 0b01000110] = .ok (.decDp 0x46, []) ∧
    decode true true [0b11000111, 0b01000111] = .ok (.cmpDpindl 0x47, []) ∧
    decode true true [0b11001000] = .ok (.iny, []) ∧
    decode true true [0b11001001, 0b01001001] = .ok (.cmpImm (.b8 0x49), []) ∧
    decode true true [0b11001010] = .ok (.dex, []) ∧
    decode true true [0b11001011] = .ok (.wai, []) ∧
    decode true true [0b11001100, 0b01001100, 0b10011010] = .ok (.cpyAbs 0x9A4C, []) ∧
    decode true true [0b11001101, 0b01001101, 0b10011010] = .ok (.cmpAbs 0x9A4D, []) ∧
    decode true true [0b11001110, 0b01001110, 0b10011010] = .ok (.decAbs 0x9A4E, []) ∧
    decode true true [0b11001111, 0b01001111, 0b10011010, 0b01011110] = .ok (.cmpLong 0x5E9A4F, []) :=
  ⟨rfl, rfl, rfl, rfl, rfl, rfl, rfl, rfl, rfl, rfl, rfl, rfl, rfl, rfl, rfl, rfl⟩

theorem decode_words_Dx :
    decode true true [0b11010000, 0b01000000] = .ok (.bne 0x40, []) ∧
    decode true true [0b11010001, 0b01000001] = .ok (.cmpDpindy 0x41, []) ∧
    decode true true [0b11010010, 0b01000010] = .ok (.cmpDpind 0x42, []) ∧
    decode true true [0b11010011, 0b01000011] = .ok (.cmpSrindy 0x43, []) ∧
    decode true true [0b11010100, 0b01000100] = .ok (.pei 0x44, []) ∧
    decode true true [0b11010101, 0b01000101] = .ok (.cmpDpx 0x45, []) ∧
    decode true true [0b11010110, 0b01000110] = .ok (.decDpx 0x46, []) ∧
    decode true true [0b11010111, 0b01000111] = .ok (.cmpDpindly 0x47, []) ∧
    decode true true [0b11011000] = .ok (.cld, []) ∧
    decode true true [0b11011001, 0b01001001, 0b10011010] = .ok (.cmpAbsy 0x9A49, []) ∧
    decode true true [0b11011010] = .ok (.phx, []) ∧
    decode true true [0b11011011] = .ok (.stp, []) ∧
    decode true true [0b11011100, 0b01001100, 0b10011010] = .ok (.jmlAbsindl 0x9A4C, []) ∧
    decode true true [0b11011101, 0b01001101, 0b10011010] = .ok (.cmpAbsx 0x9A4D, []) ∧
    decode true true [0b11011110, 0b01001110, 0b10011010] = .ok (.decAbsx 0x9A4E, []) ∧
    decode true true [0b11011111, 0b01001111, 0b10011010, 0b01011110] = .ok (.cmpLongx 0x5E9A4F, []) :=
  ⟨rfl, rfl, rfl, rfl, rfl, rfl, rfl, rfl, rfl, rfl, rfl, rfl, rfl, rfl, rfl, rfl⟩

theorem decode_words_Ex :
    decode true true [0b11100000, 0b01000000] = .ok (.cpxImm (.b8 0x40), []) ∧
    decode true true [0b11100001, 0b01000001] = .ok (.sbcDpxind 0x41, []) ∧
    decode true true [0b11100010, 0b01000010] = .ok (.sep 0x42, []) ∧
    decode true true [0b11100011, 0b01000011] = .ok (.sbcSr 0x43, []) ∧
    decode true true [0b11100100, 0b01000100] = .ok (.cpxDp 0x44, []) ∧
    decode true true [0b11100101, 0b01000101] = .ok (.sbcDp 0x45, []) ∧
    decode true true [0b11100110, 0b01000110] = .ok (.incDp 0x46, []) ∧
    decode true true [0b11100111, 0b01000111] = .ok (.sbcDpindl 0x47, []) ∧
    decode true true [0b11101000] = .ok (.inx, []) ∧
    decode true true [0b11101001, 0b01001001] = .ok (.sbcImm (.b8 0x49), []) ∧
    decode true true [0b11101010] = .ok (.nop, []) ∧
    decode true true [0b11101011] = .ok (.xba, []) ∧
    decode true true [0b11101100, 0b01001100, 0b10011010] = .ok (.cpxAbs 0x9A4C, []) ∧
    decode true true [0b11101101, 0b01001101, 0b10011010] = .ok (.sbcAbs 0x9A4D, []) ∧
    decode true true [0b11101110, 0b01001110, 0b10011010] = .ok (.incAbs 0x9A4E, []) ∧
    decode true true [0b11101111, 0b01001111, 0b10011010, 0b01011110] = .ok (.sbcLong 0x5E9A4F, []) :=
  ⟨rfl, rfl, rfl, rfl, rfl, rfl, rfl, rfl, rfl, rfl, rfl, rfl, rfl, rfl, rfl, rfl⟩

theorem decode_words_Fx :
    decode true true [0b11110000, 0b01000000] = .ok (.beq 0x40, []) ∧
    decode true true [0b11110001, 0b01000001] = .ok (.sbcDpindy 0x41, []) ∧
    decode true true [0b11110010, 0b01000010] = .ok (.sbcDpind 0x42, []) ∧
    decode true true [0b11110011, 0b01000011] = .ok (.sbcSrindy 0x43, []) ∧
    decode true true [0b11110100, 0b01000100, 0b10011010] = .ok (.pea 0x9A44, []) ∧
    decode true true [0b11110101, 0b01000101] = .ok (.sbcDpx 0x45, []) ∧
    decode true true [0b11110110, 0b01000110] = .ok (.incDpx 0x46, []) ∧
    decode true true [0b11110111, 0b01000111] = .ok (.sbcDpindly 0x47, []) ∧
    decode true true [0b11111000] = .ok (.sed, []) ∧
    decode true true [0b11111001, 0b01001001, 0b10011010] = .ok (.sbcAbsy 0x9A49, []) ∧
    decode true true [0b11111010] = .ok (.plx, []) ∧
    decode true true [0b11111011] = .ok (.xce, []) ∧
    decode true true [0b11111100, 0b01001100, 0b10011010] = .ok (.jsrAbsxind 0x9A4C, []) ∧
    decode true true [0b11111101, 0b01001101, 0b10011010] = .ok (.sbcAbsx 0x9A4D, []) ∧
    decode true true [0b11111110, 0b01001110, 0b10011010] = .ok (.incAbsx 0x9A4E, []) ∧
    decode true true [0b11111111, 0b01001111, 0b10011010, 0b01011110] = .ok (.sbcLongx 0x5E9A4F, []) :=
  ⟨rfl, rfl, rfl, rfl, rfl, rfl, rfl, rfl, rfl, rfl, rfl, rfl, rfl, rfl, rfl, rfl⟩

/-- The mode-dependent lengths (R172): two bytes with the mode bit clear. -/
theorem decode_wide_immediates :
    decode false true [0b10101001, 0b00110100, 0b00010010] = .ok (.ldaImm (.w16 0x1234), []) ∧
    decode true false [0b10100010, 0b00110100, 0b00010010] = .ok (.ldxImm (.w16 0x1234), []) ∧
    decode true false [0b10101001, 0b00110100, 0b00010010] = .ok (.ldaImm (.b8 0x34), [0x12]) ∧
    decode true true [0b10101101, 0b00110100] = .error .truncated ∧
    decode false false [] = .error .truncated := ⟨rfl, rfl, rfl, rfl, rfl⟩

/-- A word of the opcode table is read in the reset state's modes, operand bytes of zeros included. -/
theorem decode_table_words :
    decodeTableWord 8 0xAD = some (.ldaAbs 0x0000) ∧ decodeTableWord 16 0x80A9 = some (.ldaImm (.b8 0x80)) ∧
    decodeTableWord 32 0xC080005C = some (.jmlLong 0xC08000) := ⟨rfl, rfl, rfl⟩

/-- A placed word is what the next step after reset fetches: LDA $0000, and STP. -/
theorem placed_words_run :
    (after (State.reset.withFetchWord 8 0xAD)).cpu.pc = 3 ∧
    (after (State.reset.withFetchWord 8 0xDB)).cpu.run = .stp := by decide

set_option maxRecDepth 20000

/-! ### Loads, stores and transfers (40_load_store_transfer.md's examples; 95_test_vectors.md section 3) -/

theorem test_lda_imm8_keeps_AH :
    let t := after (machine { native 0x20 with a := 0x1234, pc := 0x200 } [(0x200, [0xA9, 0x80])])
    (t.cpu.a, pOf t, t.cpu.pc) = (0x1280, 0xA0, 0x202) := by decide
theorem test_lda_dpx_wraps_in_page :
    let s := machine { emu with x := 5, pc := 0x200 } [(0x200, [0xB5, 0xFF]), (0x004, [0x77])]
    ((after s).cpu.a, clocks s) = (0x0077, 30) := by decide
theorem test_ldx_imm16 :
    let t := after (machine { native 0x00 with x := 7, pc := 0x200 } [(0x200, [0xA2, 0x00, 0x00])])
    (t.cpu.x, pOf t, t.cpu.pc) = (0x0000, 0x02, 0x203) := by decide
theorem test_ldy_imm8 :
    let t := after (machine { emu with pc := 0x200 } [(0x200, [0xA0, 0xFF])])
    (t.cpu.y, pOf t) = (0x00FF, 0xB4) := by decide
theorem test_sta_abs16 :
    let t := after (machine { native 0x00 with a := 0xBEEF, db := 0x7E, pc := 0x200 } [(0x200, [0x8D, 0x10, 0x00])])
    (ram t 0x10, ram t 0x11, ram t 0x12, t.cpu.a) = (0xEF, 0xBE, 0x55, 0xBEEF) := by decide
theorem test_sta_dpindy_carries_into_next_bank :
    let t := after (machine { emu with a := 0x42, db := 0x7E, y := 0xFF, pc := 0x200 }
      [(0x200, [0x91, 0x20]), (0x20, [0x10, 0xFF])])
    (ram t 0x1000F, ram t 0x0000F) = (0x42, 0x55) := by decide
theorem test_stx_dp :
    let t := after (machine { emu with x := 0x42, pc := 0x200 } [(0x200, [0x86, 0x20])])
    (ram t 0x20, ram t 0x21) = (0x42, 0x55) := by decide
theorem test_sty_dp16 :
    let t := after (machine { native 0x00 with y := 0x1234, pc := 0x200 } [(0x200, [0x84, 0x20])])
    (ram t 0x20, ram t 0x21) = (0x34, 0x12) := by decide
theorem test_stz_writes_nmitimen :
    let s := machine { emu with pc := 0x200 } [(0x200, [0x9C, 0x00, 0x42])]
    let t := after { s with intr := { s.intr with virqEn := true, irq := { s.intr.irq with valid := true } } }
    (t.intr.virqEn, t.intr.irq.valid) = (false, false) := by decide
theorem test_tax_uses_index_width :
    let t := after (machine { native 0x10 with a := 0x1280, pc := 0x200 } [(0x200, [0xAA])])
    (t.cpu.x, pOf t) = (0x0080, 0x90) := by decide
theorem test_tay :
    let t := after (machine { native 0x00 with y := 9, pc := 0x200 } [(0x200, [0xA8])])
    (t.cpu.y, pOf t) = (0x0000, 0x02) := by decide
theorem test_txa_keeps_AH :
    let t := after (machine { native 0x20 with a := 0x12FF, x := 1, pc := 0x200 } [(0x200, [0x8A])])
    (t.cpu.a, pOf t) = (0x1201, 0x20) := by decide
theorem test_tya :
    let t := after (machine { native 0x00 with y := 0x8000, pc := 0x200 } [(0x200, [0x98])])
    (t.cpu.a, pOf t) = (0x8000, 0x80) := by decide
theorem test_txy :
    let t := after (machine { native 0x00 with x := 0xFFFF, pc := 0x200 } [(0x200, [0x9B])])
    (t.cpu.y, pOf t) = (0xFFFF, 0x80) := by decide
theorem test_tyx :
    let t := after (machine { emu with x := 3, pc := 0x200 } [(0x200, [0xBB])])
    (t.cpu.x, pOf t) = (0x0000, 0x36) := by decide
theorem test_tsx_takes_SL :
    let t := after (machine { emu with s := 0x01F0, pc := 0x200 } [(0x200, [0xBA])])
    (t.cpu.x, pOf t) = (0x00F0, 0xB4) := by decide
theorem test_txs_emulation :
    (after (machine { emu with x := 0x80, pc := 0x200 } [(0x200, [0x9A])])).cpu.s = 0x0180 := by decide
theorem test_txs_native :
    (after (machine { native 0x00 with x := 0x1FF0, pc := 0x200 } [(0x200, [0x9A])])).cpu.s = 0x1FF0 := by decide
theorem test_tcs :
    (after (machine { native 0x30 with a := 0x1FFF, pc := 0x200 } [(0x200, [0x1B])])).cpu.s = 0x1FFF := by decide
theorem test_tsc :
    let t := after (machine { emu with pc := 0x200 } [(0x200, [0x3B])])
    (t.cpu.a, pOf t) = (0x01FF, 0x34) := by decide
theorem test_tcd :
    let t := after (machine { emu with a := 0x4300, pc := 0x200 } [(0x200, [0x5B])])
    (t.cpu.d, pOf t) = (0x4300, 0x34) := by decide
theorem test_tdc :
    let t := after (machine { emu with a := 0x1234, pc := 0x200 } [(0x200, [0x7B])])
    (t.cpu.a, pOf t) = (0x0000, 0x36) := by decide
theorem test_xba :
    let t := after (machine { native 0x00 with a := 0x12FF, pc := 0x200 } [(0x200, [0xEB])])
    (t.cpu.a, pOf t) = (0xFF12, 0x00) := by decide

/-! ### The stack and block moves -/

theorem test_pha_wraps_in_page_1 :
    let t := after (machine { emu with a := 0x42, s := 0x0100, pc := 0x200 } [(0x200, [0x48])])
    (ram t 0x100, t.cpu.s) = (0x42, 0x01FF) := by decide
theorem test_pha_16 :
    let t := after (machine { native 0x00 with a := 0xABCD, s := 0x1FFF, pc := 0x200 } [(0x200, [0x48])])
    (ram t 0x1FFF, ram t 0x1FFE, t.cpu.s) = (0xAB, 0xCD, 0x1FFD) := by decide
theorem test_phx :
    let t := after (machine { emu with x := 5, pc := 0x200 } [(0x200, [0xDA])])
    (ram t 0x1FF, t.cpu.s) = (0x05, 0x01FE) := by decide
theorem test_phy :
    let t := after (machine { emu with y := 6, pc := 0x200 } [(0x200, [0x5A])])
    (ram t 0x1FF, t.cpu.s) = (0x06, 0x01FE) := by decide
theorem test_php :
    (ram (after (machine { emu with pc := 0x200 } [(0x200, [0x08])])) 0x1FF) = 0x34 := by decide
theorem test_phb :
    (ram (after (machine { emu with db := 0x7E, pc := 0x200 } [(0x200, [0x8B])])) 0x1FF) = 0x7E := by decide
theorem test_phk :
    (ram (after (machine { emu with pb := 0x80, pc := 0x200 } [(0x200, [0x4B])])) 0x1FF) = 0x80 := by decide
theorem test_phd :
    let t := after (machine { native 0x30 with d := 0x0300, s := 0x1FFF, pc := 0x200 } [(0x200, [0x0B])])
    (ram t 0x1FFF, ram t 0x1FFE, t.cpu.s) = (0x03, 0x00, 0x1FFD) := by decide
theorem test_pea_leaves_page_1 :
    let t := after (machine { emu with s := 0x0100, pc := 0x200 } [(0x200, [0xF4, 0x34, 0x12])])
    (ram t 0x100, ram t 0xFF, t.cpu.s) = (0x12, 0x34, 0x01FE) := by decide
theorem test_pei :
    let t := after (machine { native 0x30 with s := 0x1FFF, pc := 0x200 } [(0x200, [0xD4, 0x10]), (0x10, [0x00, 0x20])])
    (ram t 0x1FFF, ram t 0x1FFE, t.cpu.s) = (0x20, 0x00, 0x1FFD) := by decide
theorem test_per :
    let t := after (machine { native 0x30 with s := 0x1FFF, pb := 0x7E, pc := 0x8000 } [(0x8000, [0x62, 0x10, 0x00])])
    (ram t 0x1FFF, ram t 0x1FFE) = (0x80, 0x13) := by decide
theorem test_pla :
    let t := after (machine { emu with a := 0x1234, s := 0x01F0, pc := 0x200 } [(0x200, [0x68]), (0x1F1, [0x00])])
    (t.cpu.a, pOf t, t.cpu.s) = (0x1200, 0x36, 0x01F1) := by decide
theorem test_plx :
    let t := after (machine { emu with s := 0x01FF, pc := 0x200 } [(0x200, [0xFA]), (0x100, [0x80])])
    (t.cpu.x, pOf t, t.cpu.s) = (0x0080, 0xB4, 0x0100) := by decide
theorem test_ply :
    let t := after (machine { native 0x00 with s := 0x01FF, pc := 0x210 } [(0x210, [0x7A]), (0x200, [0x80, 0x12])])
    (t.cpu.y, t.cpu.s) = (0x1280, 0x0201) := by decide
theorem test_plp_clears_index_high :
    let t := after (machine { native 0x00 with x := 0x1234, s := 0x01F0, pc := 0x200 } [(0x200, [0x28]), (0x1F1, [0x10])])
    (pOf t, t.cpu.x) = (0x10, 0x0034) := by decide
theorem test_plb :
    let t := after (machine { emu with s := 0x01F0, pc := 0x200 } [(0x200, [0xAB]), (0x1F1, [0x7E])])
    (t.cpu.db, pOf t) = (0x7E, 0x34) := by decide
theorem test_pld :
    let t := after (machine { native 0x30 with s := 0x1FFD, pc := 0x200 } [(0x200, [0x2B]), (0x1FFE, [0x00, 0x80])])
    (t.cpu.d, pOf t, t.cpu.s) = (0x8000, 0xB0, 0x1FFF) := by decide
theorem test_mvn_one_byte :
    let t := after (machine { native 0x00 with a := 2, x := 0x1000, y := 0x2000, pc := 0x200 }
      [(0x200, [0x54, 0x7F, 0x7E]), (0x1000, [0xAA])])
    (ram t 0x12000, t.cpu.a, t.cpu.x, t.cpu.y, t.cpu.db, t.cpu.pc) = (0xAA, 1, 0x1001, 0x2001, 0x7F, 0x200) := by
  decide
theorem test_mvp_last_byte :
    let t := after (machine { native 0x00 with a := 0, x := 0x1000, y := 0x1001, pc := 0x200 }
      [(0x200, [0x44, 0x7E, 0x7E]), (0x1000, [0xAA])])
    (ram t 0x1001, t.cpu.a, t.cpu.x, t.cpu.y, t.cpu.pc) = (0xAA, 0xFFFF, 0x0FFF, 0x1000, 0x203) := by decide

/-! ### Arithmetic and logic (95_test_vectors.md section 4) -/

/-- The rows of the ADC table: A, the operand, the carry in; then the result, V and the carry out. -/
theorem test_adc_table :
    [ addCore .w8 false false 0x7F 0x01 false, addCore .w8 false false 0xFF 0x01 false
    , addCore .w8 false false 0x3C 0x05 false, addCore .w16 false false 0x1234 0x4321 false
    , addCore .w16 false false 0x7FFF 0x0001 false, addCore .w16 false false 0xFFFF 0x0001 false
    , addCore .w8 false true 0x58 0x46 false, addCore .w8 false true 0x99 0x01 false
    , addCore .w8 false true 0x09 0x01 false, addCore .w8 false true 0x50 0x50 false
    , addCore .w8 false true 0x12 0x34 true, addCore .w8 false true 0x0A 0x00 false
    , addCore .w8 false true 0xFF 0xFF true, addCore .w16 false true 0x9999 0x0001 false ].map
        (fun r => (r.value.toNat, r.v, r.c)) =
    [ (0x80, true, false), (0x00, false, true), (0x41, false, false), (0x5555, false, false), (0x8000, true, false)
    , (0x0000, false, true), (0x04, true, true), (0x00, false, true), (0x10, false, false), (0x00, true, true)
    , (0x47, false, false), (0x10, false, false), (0x55, false, true), (0x0000, false, true) ] := by decide

/-- The rows of the SBC table; the adder gets the complemented operand (R306). -/
theorem test_sbc_table :
    [ addCore .w8 true false 0x80 (~~~0x01) true, addCore .w8 true false 0x00 (~~~0x01) true
    , addCore .w16 true false 0x8000 (~~~0x0001) true, addCore .w8 true true 0x00 (~~~0x01) true
    , addCore .w8 true true 0x46 (~~~0x12) true, addCore .w8 true true 0x40 (~~~0x13) true
    , addCore .w8 true true 0x10 (~~~0x20) true, addCore .w16 true true 0x0000 (~~~0x0001) true
    , addCore .w16 true true 0x1234 (~~~0x0235) true ].map (fun r => (r.value.toNat, r.v, r.c)) =
    [ (0x7F, true, true), (0xFF, false, false), (0x7FFF, true, true), (0x99, false, false), (0x34, false, true)
    , (0x27, false, true), (0x90, false, false), (0x9999, false, false), (0x0999, false, true) ] := by decide

theorem test_adc_decimal_step :
    let t := after (machine { emu with p := statusOf 0x3C, a := 0x1258, pc := 0x200 } [(0x200, [0x69, 0x46])])
    (t.cpu.a, pOf t) = (0x1204, 0x7D) := by decide
theorem test_sbc_step :
    let t := after (machine { emu with p := statusOf 0x35, a := 0x1280, pc := 0x200 } [(0x200, [0xE9, 0x01])])
    (t.cpu.a, pOf t) = (0x127F, 0x75) := by decide
theorem test_cmp_borrow :
    let t := after (machine { emu with p := statusOf 0x3D, a := 0x10, pc := 0x200 } [(0x200, [0xC9, 0x20])])
    (t.cpu.a, pOf t) = (0x0010, 0xBC) := by decide
theorem test_cpx_16 :
    pOf (after (machine { native 0x00 with x := 0x0100, pc := 0x200 } [(0x200, [0xE0, 0xFF, 0x00])])) = 0x01 := by
  decide
theorem test_cpy :
    pOf (after (machine { emu with y := 5, pc := 0x200 } [(0x200, [0xC0, 0x06])])) = 0xB4 := by decide
theorem test_and :
    let t := after (machine { emu with a := 0x12F0, pc := 0x200 } [(0x200, [0x29, 0x0F])])
    (t.cpu.a, pOf t) = (0x1200, 0x36) := by decide
theorem test_ora :
    let t := after (machine { emu with a := 0x01, pc := 0x200 } [(0x200, [0x09, 0x80])])
    (t.cpu.a, pOf t) = (0x0081, 0xB4) := by decide
theorem test_eor :
    let t := after (machine { emu with a := 0xAA, pc := 0x200 } [(0x200, [0x49, 0xFF])])
    (t.cpu.a, pOf t) = (0x0055, 0x34) := by decide
theorem test_bit_memory :
    pOf (after (machine { emu with a := 1, pc := 0x200 } [(0x200, [0x24, 0x10]), (0x10, [0xC0])])) = 0xF6 := by
  decide
theorem test_bit_immediate_keeps_N_V :
    pOf (after (machine { emu with a := 1, pc := 0x200 } [(0x200, [0x89, 0xC0])])) = 0x36 := by decide
theorem test_inc_abs_16 :
    let s := machine { native 0x00 with pc := 0x200 } [(0x200, [0xEE, 0x00, 0x10]), (0x1000, [0xFF, 0x7F])]
    let t := after s
    (ram t 0x1000, ram t 0x1001, pOf t, clocks s) = (0x00, 0x80, 0x80, 62) := by decide
theorem test_dec_acc :
    let t := after (machine { native 0x00 with a := 1, pc := 0x200 } [(0x200, [0x3A])])
    (t.cpu.a, pOf t) = (0x0000, 0x02) := by decide
theorem test_inx :
    let t := after (machine { emu with x := 0xFF, pc := 0x200 } [(0x200, [0xE8])])
    (t.cpu.x, pOf t) = (0x0000, 0x36) := by decide
theorem test_iny :
    let t := after (machine { native 0x00 with y := 0x7FFF, pc := 0x200 } [(0x200, [0xC8])])
    (t.cpu.y, pOf t) = (0x8000, 0x80) := by decide
theorem test_dex :
    let t := after (machine { native 0x00 with pc := 0x200 } [(0x200, [0xCA])])
    (t.cpu.x, pOf t) = (0xFFFF, 0x80) := by decide
theorem test_dey :
    let t := after (machine { emu with pc := 0x200 } [(0x200, [0x88])])
    (t.cpu.y, pOf t) = (0x00FF, 0xB4) := by decide
theorem test_asl_acc :
    let t := after (machine { emu with a := 0x1281, pc := 0x200 } [(0x200, [0x0A])])
    (t.cpu.a, pOf t) = (0x1202, 0x35) := by decide
theorem test_lsr_acc :
    let t := after (machine { emu with a := 1, pc := 0x200 } [(0x200, [0x4A])])
    (t.cpu.a, pOf t) = (0x0000, 0x37) := by decide
theorem test_rol_acc :
    let t := after (machine { emu with p := statusOf 0x35, a := 0x80, pc := 0x200 } [(0x200, [0x2A])])
    (t.cpu.a, pOf t) = (0x0001, 0x35) := by decide
theorem test_ror_acc_16 :
    let t := after (machine { native 0x01 with a := 1, pc := 0x200 } [(0x200, [0x6A])])
    (t.cpu.a, pOf t) = (0x8000, 0x81) := by decide
theorem test_tsb :
    let t := after (machine { emu with a := 3, pc := 0x200 } [(0x200, [0x04, 0x10]), (0x10, [0x04])])
    (ram t 0x10, pOf t) = (0x07, 0x36) := by decide
theorem test_trb :
    let t := after (machine { emu with a := 3, pc := 0x200 } [(0x200, [0x14, 0x10]), (0x10, [0x07])])
    (ram t 0x10, pOf t) = (0x04, 0x34) := by decide

/-! ### Control transfer (95_test_vectors.md section 5; PB = 0x7E where the code is at 0x8000) -/

theorem test_bne_page_cross_emulation :
    let s := machine { emu with pb := 0x7E, pc := 0x80F0 } [(0x80F0, [0xD0, 0x20])]
    ((after s).cpu.pc, clocks s) = (0x8112, 28) := by decide
theorem test_bne_not_taken :
    let s := machine { native 0x02 with pb := 0x7E, pc := 0x8000 } [(0x8000, [0xD0, 0x05])]
    ((after s).cpu.pc, clocks s) = (0x8002, 16) := by decide
theorem test_bpl :
    (after (machine { emu with pb := 0x7E, pc := 0x8000 } [(0x8000, [0x10, 0x05])])).cpu.pc = 0x8007 := by decide
theorem test_bmi :
    let s := machine { native 0x80 with pb := 0x7E, pc := 0x8000 } [(0x8000, [0x30, 0xFC])]
    ((after s).cpu.pc, clocks s) = (0x7FFE, 22) := by decide
theorem test_bvc :
    (after (machine { emu with pb := 0x7E, pc := 0x8000 } [(0x8000, [0x50, 0x10])])).cpu.pc = 0x8012 := by decide
theorem test_bvs :
    (after (machine { native 0x40 with pc := 0x1000 } [(0x1000, [0x70, 0x02])])).cpu.pc = 0x1004 := by decide
theorem test_bcc_wraps_in_bank :
    let t := after (machine { native 0x00 with pb := 0x7E, pc := 0xFFF0 } [(0xFFF0, [0x90, 0x20])])
    (t.cpu.pc, t.cpu.pb) = (0x0012, 0x7E) := by decide
theorem test_bcs_not_taken :
    (after (machine { emu with pb := 0x7E, pc := 0x8000 } [(0x8000, [0xB0, 0x10])])).cpu.pc = 0x8002 := by decide
theorem test_beq :
    (after (machine { native 0x02 with pb := 0x7E, pc := 0x8000 } [(0x8000, [0xF0, 0x80])])).cpu.pc = 0x7F82 := by
  decide
theorem test_bra :
    (after (machine { emu with pb := 0x7E, pc := 0x8000 } [(0x8000, [0x80, 0xFE])])).cpu.pc = 0x8000 := by decide
theorem test_brl :
    let s := machine { emu with pb := 0x7E, pc := 0x8000 } [(0x8000, [0x82, 0xFD, 0xFF])]
    ((after s).cpu.pc, clocks s) = (0x8000, 30) := by decide
theorem test_jmp_indirect_reads_bank_0 :
    let s := machine { emu with pb := 0x7F, pc := 0x8000 } [(0x18000, [0x6C, 0x00, 0x10]), (0x1000, [0x34, 0x12])]
    ((after s).cpu.pc, (after s).cpu.pb, clocks s) = (0x1234, 0x7F, 40) := by decide
theorem test_jmp_indexed_reads_program_bank :
    let t := after (machine { emu with pb := 0x7F, x := 2, pc := 0x8000 }
      [(0x18000, [0x7C, 0x00, 0x10]), (0x11002, [0x78, 0x56])])
    (t.cpu.pc, t.cpu.pb) = (0x5678, 0x7F) := by decide
theorem test_jml_long :
    let t := after (machine { emu with pc := 0x200 } [(0x200, [0x5C, 0x00, 0x80, 0xC0])])
    (t.cpu.pc, t.cpu.pb) = (0x8000, 0xC0) := by decide
theorem test_jml_indirect :
    let t := after (machine { emu with pc := 0x200 } [(0x200, [0xDC, 0x00, 0x10]), (0x1000, [0x00, 0x80, 0x7E])])
    (t.cpu.pc, t.cpu.pb) = (0x8000, 0x7E) := by decide
theorem test_jsr :
    let s := machine { emu with pb := 0x7E, pc := 0x8000 } [(0x8000, [0x20, 0x00, 0x90])]
    let t := after s
    (ram t 0x1FF, ram t 0x1FE, t.cpu.s, t.cpu.pc, clocks s) = (0x80, 0x02, 0x01FD, 0x9000, 46) := by decide
theorem test_jsr_indexed :
    let s := machine { emu with pb := 0x7E, x := 2, pc := 0x8000 }
      [(0x8000, [0xFC, 0x00, 0x90]), (0x9002, [0x34, 0x12])]
    let t := after s
    (ram t 0x1FF, ram t 0x1FE, t.cpu.s, t.cpu.pc) = (0x80, 0x02, 0x01FD, 0x1234) := by decide
theorem test_jsl :
    let s := machine { native 0x30 with pb := 0x7E, s := 0x1FFF, pc := 0x8000 } [(0x8000, [0x22, 0x00, 0x90, 0x01])]
    let t := after s
    (ram t 0x1FFF, ram t 0x1FFE, ram t 0x1FFD, t.cpu.s, t.cpu.pb, t.cpu.pc) = (0x7E, 0x80, 0x03, 0x1FFC, 0x01, 0x9000) :=
  by decide
theorem test_rts :
    let s := machine { emu with s := 0x01FD, pc := 0x300 } [(0x300, [0x60]), (0x1FE, [0x02, 0x80])]
    ((after s).cpu.pc, (after s).cpu.s, clocks s) = (0x8003, 0x01FF, 42) := by decide
theorem test_rtl :
    let t := after (machine { native 0x30 with pb := 0x7E, s := 0x1FFC, pc := 0x300 }
      [(0x300, [0x6B]), (0x1FFD, [0x03, 0x80, 0x00])])
    (t.cpu.pc, t.cpu.pb, t.cpu.s) = (0x8004, 0x00, 0x1FFF) := by decide
theorem test_rti_native :
    let t := after (machine { native 0x30 with pb := 0x7E, s := 0x1FF8, pc := 0x300 }
      [(0x300, [0x40]), (0x1FF9, [0x30, 0x05, 0x80, 0x00])])
    (pOf t, t.cpu.pc, t.cpu.pb, t.cpu.s) = (0x30, 0x8005, 0x00, 0x1FFC) := by decide
theorem test_rti_emulation :
    let t := after (machine { emu with s := 0x01FC, pc := 0x300 } [(0x300, [0x40]), (0x1FD, [0x00, 0x05, 0x80])])
    (pOf t, t.cpu.pc, t.cpu.s) = (0x30, 0x8005, 0x01FF) := by decide
theorem test_brk_native :
    let s := withRom [(0xFFE6, [0x00, 0x90])]
      (machine { native 0x00 with pb := 0x7F, s := 0x1FFF, pc := 0x3400 } [(0x13400, [0x00, 0xEA])])
    let t := after s
    (ram t 0x1FFF, ram t 0x1FFE, ram t 0x1FFD, ram t 0x1FFC) = (0x7F, 0x34, 0x02, 0x00) ∧
    (t.cpu.s, pOf t, t.cpu.pb, t.cpu.pc, clocks s) = (0x1FFB, 0x04, 0x00, 0x9000, 64) := by decide
theorem test_cop_emulation :
    let s := withRom [(0xFFF4, [0x00, 0x90])] (machine { emu with pb := 0x7E, pc := 0x8000 } [(0x8000, [0x02, 0x00])])
    let t := after s
    (ram t 0x1FF, ram t 0x1FE, ram t 0x1FD, t.cpu.s, pOf t, t.cpu.pc) = (0x80, 0x02, 0x34, 0x01FC, 0x34, 0x9000) := by
  decide

/-! ### Flags and processor control (95_test_vectors.md section 6) -/

theorem test_clc : pOf (after (machine { native 0x01 with pc := 0x200 } [(0x200, [0x18])])) = 0x00 := by decide
theorem test_sec : pOf (after (machine { native 0x30 with pc := 0x200 } [(0x200, [0x38])])) = 0x31 := by decide
theorem test_cli : pOf (after (machine { native 0x34 with pc := 0x200 } [(0x200, [0x58])])) = 0x30 := by decide
theorem test_sei : pOf (after (machine { native 0x30 with pc := 0x200 } [(0x200, [0x78])])) = 0x34 := by decide
theorem test_cld : pOf (after (machine { native 0x3C with pc := 0x200 } [(0x200, [0xD8])])) = 0x34 := by decide
theorem test_sed : pOf (after (machine { native 0x34 with pc := 0x200 } [(0x200, [0xF8])])) = 0x3C := by decide
theorem test_clv : pOf (after (machine { native 0x70 with pc := 0x200 } [(0x200, [0xB8])])) = 0x30 := by decide
theorem test_rep_native :
    pOf (after (machine { native 0x34 with pc := 0x200 } [(0x200, [0xC2, 0x30])])) = 0x04 := by decide
theorem test_rep_emulation :
    pOf (after (machine { emu with pc := 0x200 } [(0x200, [0xC2, 0xFF])])) = 0x30 := by decide
theorem test_sep :
    let t := after (machine { native 0x00 with x := 0x1234, y := 0xABCD, pc := 0x200 } [(0x200, [0xE2, 0x10])])
    (pOf t, t.cpu.x, t.cpu.y) = (0x10, 0x0034, 0x00CD) := by decide
theorem test_xce_to_emulation :
    let t := after (machine { native 0x01 with x := 0x1234, s := 0x1FF0, pc := 0x200 } [(0x200, [0xFB])])
    (t.cpu.e, pOf t, t.cpu.x, t.cpu.s) = (true, 0x30, 0x0034, 0x01F0) := by decide
theorem test_xce_to_native :
    let t := after (machine { emu with pc := 0x200 } [(0x200, [0xFB])])
    (t.cpu.e, pOf t) = (false, 0x35) := by decide
theorem test_nop :
    let s := machine { emu with pc := 0x200 } [(0x200, [0xEA])]
    (after s).cpu = { s.cpu with pc := 0x201 } := by decide
theorem test_wdm :
    let s := machine { emu with pc := 0x200 } [(0x200, [0x42, 0xFF])]
    (after s).cpu = { s.cpu with pc := 0x202 } ∧ clocks s = 16 := by decide
theorem test_wai_waits :
    let t := after (machine { emu with pc := 0x200 } [(0x200, [0xCB, 0xEA])])
    (t.cpu.run, (after t).cpu.run, (after t).cpu.pc) = (.wai, .wai, 0x201) := by decide
theorem test_stp_stays :
    let t := after (machine { emu with pc := 0x200 } [(0x200, [0xDB, 0xEA])])
    ((after t).cpu.run, (after t).cpu.pc) = (.stp, 0x201) := by decide

/-! ### Interrupts, power and reset (95_test_vectors.md sections 9 and 10) -/

theorem test_nmi_entry :
    let s := withRom [(0xFFEA, [0x00, 0x91])] (machine { native 0x00 with s := 0x1FFF, pb := 0x7E, pc := 0x8000 } [])
    let s := { s with intr := { s.intr with interruptPending := true, nmi := { s.intr.nmi with pending := true } } }
    let t := after s
    (ram t 0x1FFF, ram t 0x1FFE, ram t 0x1FFD, ram t 0x1FFC) = (0x7E, 0x80, 0x00, 0x00) ∧
    (t.cpu.s, pOf t, t.cpu.pb, t.cpu.pc, t.intr.nmi.pending) = (0x1FFB, 0x04, 0x00, 0x9100, false) := by decide
theorem test_irq_entry_emulation_clears_bit_4 :
    let s := withRom [(0xFFFE, [0x00, 0x92])] (machine { emu with p := statusOf 0x30, pb := 0x7E, pc := 0x8000 } [])
    let s := { s with intr := { s.intr with interruptPending := true, irq := { s.intr.irq with pending := true } } }
    let t := after s
    (ram t 0x1FF, ram t 0x1FE, ram t 0x1FD) = (0x80, 0x00, 0x20) ∧
    (t.cpu.s, pOf t, t.cpu.pc) = (0x01FC, 0x34, 0x9200) := by decide
/-- R575: a masked IRQ ends the wait and is not taken. -/
theorem test_wai_ends_on_masked_irq :
    let s := machine { emu with run := .wai, pc := 0x201 } []
    let t := after { s with intr := { s.intr with irq := { s.intr.irq with pending := true } } }
    (t.cpu.run, t.cpu.pc, t.intr.irq.pending) = (.run, 0x201, true) := by decide
/-- R550: an edge is pending one poll after the poll that sees it, with INT_HOLD = 1 (X2). -/
theorem test_edge_hold :
    let q : IntSource := { valid := true, flag := true, transition := true, pending := false, hold := 0 }
    ((polls 1 1 q).pending, (polls 1 1 q).hold, (polls 1 2 q).pending) = (false, 1, true) := by decide
/-- R620, R622: power, then the reset sequence. -/
theorem test_power_then_reset_sequence :
    let s := { State.reset with hostIn := [[.loadCart (harness [(0xFFFC, [0x00, 0x80])]), .power []]] }
    let t := after s
    (t.cpu.pc, t.bus.mdr, t.clk.clockCount, t.cpu.s, pOf t, t.intr.resetPending) = (0x8000, 0x80, 16, 0x01FF, 0x34, false) := by
  decide
/-- R621 to R623: what a warm reset keeps. -/
theorem test_warm_reset :
    let s := machine { native 0x00 with a := 0x1234, x := 0x5678, y := 0x9ABC, s := 0x1FC0, d := 0x2000, db := 0x7E }
      [(0x000, [0x99])]
    let s := { s with
      io := { wrio := 0x7F, memsel := true, wmadd := 0x00123 }
      intr := { s.intr with htime := 0x020, nmi := { s.intr.nmi with valid := true, pending := true } }
      hostIn := [[.reset []]] }
    let t := after s
    (t.cpu.a, t.cpu.x, t.cpu.y, t.cpu.s, t.cpu.d, t.cpu.e) = (0x1234, 0x0078, 0x00BC, 0x01C0, 0x0000, true) ∧
    (ram t 0, t.io, t.intr.htime, t.intr.nmi.valid, t.intr.nmi.pending) =
      (0x99, ⟨0x7F, false, 0x00123⟩, 0x1FF, false, false) := by decide
/-- R425: a reset ends STP. -/
theorem test_reset_ends_stp :
    let s := machine { emu with run := .stp } []
    (after { s with hostIn := [[.reset []]] }).cpu.run = .run := by decide

/-! ### The address decoder (95_test_vectors.md section 2) -/

theorem test_mirror_table :
    [ mirror 0x6000 0x6000, mirror 0x7FFF 0x6000, mirror 0x8000 0x6000, mirror 0xC000 0x6000, mirror 0xE123 0x6000
    , mirror 0xFFFFFF 0x6000, mirror 0x3000 0x3000, mirror 0x3800 0x3000, mirror 0x6000 0x5000, mirror 0x7FFF 0x5000
    , mirror 0x0A00 0x0900, mirror 0x0FFF 0x0900, mirror 0x180000 0x180000, mirror 0x1C0000 0x180000
    , mirror 0x300000 0x180000, mirror 0x1FFFFF 0x180000, mirror 0x12345 0x20000, mirror 0x3FFFF 0x20000
    , mirror 0xFFFFFF 0x800, mirror 0x123456 0 ] =
    [ 0x4000, 0x5FFF, 0x0000, 0x4000, 0x4123, 0x5FFF, 0x2000, 0x2800, 0x4000, 0x4FFF, 0x0800, 0x08FF, 0x100000, 0x140000
    , 0x100000, 0x17FFFF, 0x12345, 0x1FFFF, 0x7FF, 0 ] := by decide
theorem test_system_map :
    [ (0x000000 : Addr), 0x3F1FFF, 0x801234, 0x7E2000, 0x7FFFFF, 0x002180, 0x004016, 0x004210, 0x006000, 0x400000
    , 0xC00000 ].map State.reset.bus.resolve =
    [ .wram 0x00000, .wram 0x01FFF, .wram 0x01234, .wram 0x02000, .wram 0x1FFFF, .mmio 0x002180, .mmio 0x004016
    , .mmio 0x004210, .unmapped 0x006000, .unmapped 0x400000, .unmapped 0xC00000 ] := by decide
theorem test_speed :
    [ (0x000000 : Addr), 0x7E2000, 0x002180, 0x004016, 0x004210, 0x006000, 0x400000, 0xC00000, 0x808000 ].map (speed false) =
      [8, 8, 6, 12, 6, 8, 8, 8, 8] ∧
    [ (0xC00000 : Addr), 0x808000, 0x008000 ].map (speed true) = [6, 6, 8] := by decide
theorem test_is_mirror :
    State.reset.bus.isMirror 0x000100 0x7E0100 = true ∧ State.reset.bus.isMirror 0x002100 0x7E2100 = false := by decide
/-- A cartridge whose one device has size 0 (R120). -/
def cartOfSizeZero : Cart :=
  { devices := [{ size := 0, patchable := false, writeProtect := false, cells := [] }]
    maps := [{ mode := .linear, bankLo := 0x40, bankHi := 0x40, addrLo := 0, addrHi := 0xFFFF, dev := .cart 0, offset := 0
               size := 0 }]
    claims := []
    coprocs := [] }

/-- A cartridge that claims 0x4200 again (R117). -/
def cartClaimingTwice : Cart :=
  { devices := [], maps := [], claims := [{ lo := 0x4200, hi := 0x4200, owner := .video }], coprocs := [] }

theorem test_size_zero_is_refused :
    step { State.reset with hostIn := [[.loadCart cartOfSizeZero]] } = .refused .badMapping := rfl
theorem test_second_claim_is_refused :
    step { State.reset with hostIn := [[.loadCart cartClaimingTwice]] } = .refused .claimedTwice := rfl
/-- X6: open bus. -/
theorem test_open_bus :
    let a := after (machine { emu with pc := 0x200 } [(0x200, [0xAD, 0x00, 0x60])])
    let b := after (machine { emu with pc := 0x200 } [(0x200, [0xAD, 0x10, 0x42])])
    (a.cpu.a, b.cpu.a) = (0x0060, 0x0042) := by decide

/-! ### The CPU's registers (95_test_vectors.md section 8) -/

theorem test_multiply_latency :
    let u := ({ Alu.init with wrmpya := 0x2A } : Alu).writeMpyB 0x03
    ((ticks 7 u).rdmpy, (ticks 8 u).rdmpy, (ticks 8 u).rddiv) = (0x0000, 126, 0x0003) := by decide
theorem test_divide :
    let u := ({ Alu.init with wrdiv := 0x1234 } : Alu)
    ((ticks 16 (u.writeDivB 0x10)).rddiv, (ticks 16 (u.writeDivB 0x10)).rdmpy) = (0x0123, 0x0004) ∧
    ((ticks 16 (u.writeDivB 0x00)).rddiv, (ticks 16 (u.writeDivB 0x00)).rdmpy) = (0xFFFF, 0x1234) ∧
    (ticks 15 (u.writeDivB 0x10)).rddiv = 0x0000 := by decide
theorem test_wram_port :
    let s := machine emu []
    let t := busWrite 0x002180 0xAB { s with io := { s.io with wmadd := 0x1FFFF } }
    (ram t 0x1FFFF, t.io.wmadd, (busWrite 0x002183 0x03 s).io.wmadd) = (0xAB, 0x00000, 0x10000) := by decide
theorem test_rdnmi :
    let s := machine emu []
    let s := { s with bus := { s.bus with mdr := 0x42 }, intr := { s.intr with nmi := { s.intr.nmi with flag := true } } }
    let r := busRead 0x004210 s
    (r.1, (busRead 0x004210 r.2).1) = (0xC2, 0x42) := by decide
theorem test_timeup_clears :
    let s := machine emu []
    let s := { s with intr := { s.intr with irq := { s.intr.irq with flag := true, pending := true } } }
    let r := busRead 0x004211 s
    (r.1, r.2.intr.irq.flag, r.2.intr.irq.pending) = (0x80, false, false) := by decide
theorem test_hvbjoy :
    let s := machine emu []
    let u := { s with clk := { s.clk with vcounter := 225, hcounter := 100 }, joy := { s.joy with autojoyBusy := 1 } }
    let w := { s with clk := { s.clk with vcounter := 10, hcounter := 1100 } }
    ((busRead 0x004212 u).1, (busRead 0x004212 w).1) = (0x81, 0x40) := by decide
theorem test_serial_port :
    let s := machine emu []
    let t := busWrite 0x004016 0x00 (busWrite 0x004016 0x01 { s with joy := { s.joy with pad0 := 0x8000 } })
    (serialReads false 0x8000 17 t.joy.ser0).1 = true :: (List.replicate 15 false ++ [true]) := by decide
theorem test_autojoy :
    let s := machine emu []
    let s := { s with clk := { s.clk with vcounter := 225, hcounter := 2 }
                      joy := { s.joy with autojoyEn := true, pad0 := 0x1234, pad1 := 0xABCD } }
    let t := eventAutojoy s
    (t.joy.joy1, t.joy.joy2, t.joy.autojoyBusy, (busRead 0x004016 t).1.getLsbD 0) = (0x1234, 0xABCD, 4224, true) := by decide

/-! ### DMA and HDMA (95_test_vectors.md section 7) -/

theorem test_dma_addr_valid :
    [ (0x002100 : Addr), 0x0021FF, 0x002200, 0x004016, 0x00420B, 0x004300, 0x00437F, 0x004380, 0x802118, 0x402100
    , 0x7E2100 ].map dmaAddrValid =
    [false, false, true, false, false, false, false, true, false, true, true] := by decide
theorem test_b_bus_sequences :
    [1, 3, 4, 7].map (fun m => (List.range 6).map (fun k => (0x18 + bOffset m k).toNat)) =
    [ [0x18, 0x19, 0x18, 0x19, 0x18, 0x19], [0x18, 0x18, 0x19, 0x19, 0x18, 0x18], [0x18, 0x19, 0x1A, 0x1B, 0x18, 0x19]
    , [0x18, 0x18, 0x19, 0x19, 0x18, 0x18] ] := by decide

/-- A state with a general DMA pending on channel 0. -/
def dmaState (dmap : Byte) (a1b : Byte) (a1t das : Word) : State :=
  let s := withRom [(0x80FF, [0x99]), (0x8100, [0xAA, 0xBB, 0xCC, 0xDD])] (machine emu [])
  let s := s.updCh 0 (fun c =>
    { c with dmap := dmap, bbad := 0x80, a1t := a1t, a1b := a1b, das := das, dmaEnabled := true })
  { s with dma := { s.dma with pending := true }, io := { s.io with wmadd := 0x20 } }

theorem test_general_dma :
    let t := startCycle (cycleEdge (dmaState 0x00 0x00 0x8100 4))
    (ram t 0x20, ram t 0x21, ram t 0x22, ram t 0x23, ram t 0x24) = (0xAA, 0xBB, 0xCC, 0xDD, 0x55) ∧
    (t.io.wmadd, (t.ch 0).a1t, (t.ch 0).das, (t.ch 0).dmaEnabled, t.clk.clockCount, t.bus.mdr) =
      (0x24, 0x8104, 0x0000, false, 32, 0xDD) := by decide
theorem test_dma_decrement :
    let t := startCycle (cycleEdge (dmaState 0x10 0x00 0x8100 2))
    (ram t 0x20, ram t 0x21, (t.ch 0).a1t) = (0xAA, 0x99, 0x80FE) := by decide
theorem test_dma_wram_conflict :
    let t := startCycle (cycleEdge (dmaState 0x80 0x7E 0x1000 1))
    (ram t 0x1000, t.io.wmadd, t.bus.mdr, t.clk.clockCount) = (0x00, 0x20, 0x00, 8) := by decide

/-- Section 11, R454: after the channel's selection and 12 clocks of it the controller owes 4 of the second byte's 8 clocks: the
byte is read and not yet written. -/
def dmaHalfway : State := iterate dmaClock 13 (cycleEdge (dmaState 0x00 0x00 0x8100 4))
theorem test_dma_suspended_inside_a_byte :
    (dmaHalfway.dma.clocks, dmaHalfway.dma.active, dmaHalfway.dma.index, (dmaHalfway.ch 0).das) = (4, true, 2, 3) ∧
    (ram dmaHalfway 0x20, ram dmaHalfway 0x21, dmaHalfway.bus.mdr, dmaHalfway.clk.clockCount) = (0xAA, 0x55, 0xBB, 12) := by
  decide
/-- Section 11, R454 and R604: what is left of it leads where the whole of it leads. -/
theorem test_dma_resumes : startCycle dmaHalfway = startCycle (cycleEdge (dmaState 0x00 0x00 0x8100 4)) := by decide +kernel
/-- Section 10, R623: a reset during a general DMA abandons it, and DASn keeps the count of bytes not moved. -/
theorem test_reset_abandons_dma :
    let t := after { dmaHalfway with hostIn := [[.reset []]] }
    ((t.ch 0).das, (t.ch 0).dmaEnabled, t.dma.active, t.dma.running, t.dma.clocks, ram t 0x21) =
      (3, false, false, false, 0, 0x55) := by decide
/-- R442, R446: the DMA that the last cycle of STA $420B starts takes the bus at the end of that cycle; it is over before the
next cycle begins. -/
theorem test_mdmaen_starts_dma :
    let s := dmaState 0x00 0x00 0x8100 1
    let t := after { s with
      cpu := { s.cpu with a := 0x0001, pc := 0x0200 }
      bus := { s.bus with wram := content [(0x200, [0x8D, 0x0B, 0x42])] }
      dma := { s.dma with pending := false } }
    let u := startCycle t
    (t.dma.active, (t.ch 0).das, t.cpu.pc) = (true, 1, 0x0203) ∧
    (u.dma.active, (u.ch 0).das, ram u 0x20, u.clk.clockCount - t.clk.clockCount) = (false, 0, 0xAA, 8) := by decide

/-- The HDMA table of section 7 on channel 0. -/
def hdmaState : State :=
  let s := withRom [(0x9000, [0x02, 0x11, 0x82, 0x22, 0x33, 0x00])] (machine emu [])
  let s := s.updCh 0 (fun c => { c with dmap := 0x00, bbad := 0x80, a1t := 0x9000, a1b := 0x00, hdmaEnabled := true })
  { s with io := { s.io with wmadd := 0x0040 } }

theorem test_hdma_init :
    let t := hdmaInit hdmaState
    ((t.ch 0).ntrl, (t.ch 0).a2a, (t.ch 0).hdmaDoTransfer, (t.ch 0).hdmaCompleted, t.clk.clockCount) =
      (0x02, 0x9001, true, false, 8) := by decide
theorem test_hdma_run_lines :
    let t := hdmaRun (hdmaInit hdmaState)
    let u := hdmaRun t
    (ram t 0x40, (t.ch 0).ntrl, (t.ch 0).hdmaDoTransfer) = (0x11, 0x01, false) ∧
    ((u.ch 0).ntrl, (u.ch 0).hdmaDoTransfer, u.io.wmadd) = (0x82, true, 0x41) := by decide

/-! ### Time and the scheduler (95_test_vectors.md sections 9 and 11) -/

theorem test_refresh_adds_40_clocks :
    let s := machine { emu with pc := 0x200 } [(0x200, [0xEA])]
    clocks { s with clk := { s.clk with hcounter := 530 } } = 54 := by decide
theorem test_synchronize_runs_seven_steps :
    let s := machine emu []
    let s := { s with clk := { s.clk with clockCount := 1000 }
                      sched := { s.sched with audio := { freq := 10738636, clocks := 480, stepClocks := 3 } } }
    (synchronize .audio s).sched.audio.clocks = 501 := by decide

/-! ### Witnesses: for each statement with hypotheses, a state and operands that meet them together -/

/-- A quiet machine in emulation mode with a program, pointers and data in work RAM. -/
def w0 : State :=
  machine { emu with db := 0x7E, pc := 0x200 } [(0x200, [0xA7, 0x10]), (0x10, [0x00, 0x30, 0x7E]), (0x3000, [0x42, 0x43])]

/-- The same in native mode with 16-bit registers, at the ends of their ranges. -/
def w1 : State :=
  { w0 with cpu := { native 0x00 with a := 0xFFFF, x := 0xFFFF, y := 0xFFFF, s := 0x1E00, db := 0x7E, pc := 0x200 } }

theorem witness_quiet : Quiet w0 ∧ Quiet w1 ∧ w0.bus.memoryOk = true ∧ w1.bus.memoryOk = true := by
  unfold Quiet; decide +kernel

theorem witness_ResetSequence :
    State.reset.hostIn = [] ∧ State.reset.intr.resetPending = true ∧ Quiet State.reset ∧
    NoRegister State.reset 0x00FFFC ∧ NoRegister State.reset 0x00FFFD := by
  unfold Quiet NoRegister; decide +kernel

theorem witness_PowerAndReset :
    w0.bus.cart = none ∧ (withRom [] w0).bus.cart = some (harness []) := ⟨rfl, rfl⟩

theorem witness_OnlyConfigurationIsRefused :
    (∀ l ∈ ({ w0 with hostIn := [[.power [], .pad0 1]] } : State).hostIn.head?, ∀ a ∈ l, ∀ c, a ≠ HostAction.loadCart c) ∧
    (∃ r ∈ cartOfSizeZero.maps, MapRequest.admitted cartOfSizeZero.devices r = false) ∧
    (∀ r ∈ cartClaimingTwice.maps, MapRequest.admitted cartClaimingTwice.devices r = true) ∧
    (∃ c1 ∈ cartClaimingTwice.claims, ∃ c2 ∈ fixedClaims, ∃ a : Nat, c1.lo ≤ a ∧ a ≤ c1.hi ∧ c2.lo ≤ a ∧ a ≤ c2.hi) := by
  refine ⟨?_, ?_, ?_, ?_⟩
  · intro l hl a ha c h
    simp only [List.head?_cons, Option.mem_def, Option.some.injEq] at hl
    subst hl h
    simp at ha
  · exact ⟨_, List.mem_cons_self, rfl⟩
  · intro r hr
    simp [cartClaimingTwice] at hr
  · exact ⟨_, List.mem_cons_self, ⟨0x4200, 0x421F, .cpu⟩, by decide, 0x4200, by decide, by decide, by decide, by decide⟩

theorem witness_DecodeEncode :
    Instr.wf true false (.ldaImm (.b8 0xFF)) = true ∧ Instr.wf false true (.ldaImm (.w16 0xFFFF)) = true ∧
    Instr.wf true true (.jmlLong 0xFFFFFF) = true := by decide

theorem witness_EncodeDecode :
    decode false false [0xA9, 0x34, 0x12, 0xEA] = .ok (.ldaImm (.w16 0x1234), [0xEA]) ∧
    decode true true [0x5C, 0x00, 0x80] = .error .truncated := ⟨rfl, rfl⟩

/-- One instruction with no late byte, and one with one, at the end of its bank. -/
theorem witness_StepRunsInstruction :
    let s := machine { emu with pb := 0x7E, pc := 0xFFFE } [(0xFFFE, [0x22, 0x00]), (0x0000, [0x90, 0x01])]
    (w0.hostIn = [] ∧ w0.intr.resetPending = false ∧ w0.cpu.run = .run ∧ w0.intr.interruptPending = false) ∧
    decode w0.cpu.p.m w0.cpu.p.x [0xA7, 0x10] = .ok (.ldaDpindl 0x10, []) ∧
    (∀ k : Nat, k < 2 → w0.bus.byteAt (long w0.cpu.pb (w0.cpu.pc + BitVec.ofNat 16 k)) = some ([0xA7, 0x10].getD k 0)) ∧
    (s.hostIn = [] ∧ s.intr.resetPending = false ∧ s.cpu.run = .run ∧ s.intr.interruptPending = false ∧ Quiet s) ∧
    decode s.cpu.p.m s.cpu.p.x [0x22, 0x00, 0x90, 0x01] = .ok (.jsl 0x019000, []) ∧
    (∀ k : Nat, k < 4 →
      s.bus.byteAt (long s.cpu.pb (s.cpu.pc + BitVec.ofNat 16 k)) = some ([0x22, 0x00, 0x90, 0x01].getD k 0)) := by
  refine ⟨by decide, rfl, by decide, ?_, rfl, by decide⟩
  unfold Quiet; decide +kernel

/-- A machine in a given run state with given pending bits. -/
def boundaryState (rs : RunState) (reset due nmi irq : Bool) : State :=
  { w0 with
    cpu := { w0.cpu with run := rs }
    intr := { w0.intr with
      resetPending := reset, interruptPending := due
      nmi := { w0.intr.nmi with pending := nmi }, irq := { w0.intr.irq with pending := irq } } }

theorem witness_BoundaryOrder :
    (boundaryState .stp true true true true).intr.resetPending = true ∧
    (let s := cycleEdge (dmaState 0x00 0x00 0x8100 4)
     s.hostIn = [] ∧ s.intr.resetPending = false ∧ s.dma.active = true) ∧
    (let s := boundaryState .stp false true true true
     s.hostIn = [] ∧ s.intr.resetPending = false ∧ s.dma.active = false ∧ s.cpu.run = .stp) ∧
    (let s := boundaryState .wai false false false true
     s.intr.resetPending = false ∧ s.cpu.run = .wai ∧ (s.intr.nmi.pending = true ∨ s.intr.irq.pending = true)) ∧
    (let s := boundaryState .wai false false false false
     s.intr.resetPending = false ∧ s.cpu.run = .wai ∧ s.intr.nmi.pending = false ∧ s.intr.irq.pending = false) ∧
    (let s := boundaryState .run false true true true
     s.cpu.run = .run ∧ s.intr.interruptPending = true ∧ s.intr.nmi.pending = true) ∧
    (let s := boundaryState .run false true false true
     s.cpu.run = .run ∧ s.intr.interruptPending = true ∧ s.intr.nmi.pending = false ∧ s.intr.irq.pending = true) ∧
    (let s := boundaryState .run false true false false
     s.intr.interruptPending = true ∧ s.intr.nmi.pending = false ∧ s.intr.irq.pending = false) :=
  ⟨rfl, ⟨rfl, rfl, rfl⟩, ⟨rfl, rfl, rfl, rfl⟩, ⟨rfl, rfl, .inr rfl⟩, ⟨rfl, rfl, rfl, rfl⟩, ⟨rfl, rfl, rfl⟩, ⟨rfl, rfl, rfl, rfl⟩, rfl, rfl, rfl⟩

/-- The frames of an entry and its vector reach no register, in emulation mode (3 bytes) and in native mode (4 bytes). -/
theorem witness_InterruptEntry :
    (pushedAt (pushSlot w0.cpu) (frameOf w0.cpu 0x24)).map Prod.fst = [0x0001FF, 0x0001FE, 0x0001FD] ∧
    (∀ n ∈ [0x0001FF, 0x0001FE, 0x0001FD], NoRegister w0 (addr n)) ∧
    (frameOf w0.cpu 0x24).length = 3 ∧ NoRegister w0 0x00FFFA ∧ NoRegister w0 0x00FFFB ∧
    (pushedAt (pushSlot w1.cpu) (frameOf w1.cpu 0x00)).map Prod.fst = [0x001E00, 0x001DFF, 0x001DFE, 0x001DFD] ∧
    (∀ n ∈ [0x001E00, 0x001DFF, 0x001DFE, 0x001DFD], NoRegister w1 (addr n)) ∧
    (frameOf w1.cpu 0x00).length = 4 ∧ NoRegister w1 0x00FFEE ∧ NoRegister w1 0x00FFEF := by
  unfold NoRegister; decide +kernel

/-- The invariants hold right before a step that answers a next state, on states that are not the reset state: one of the CPU
and one of the controller, inside a byte. -/
theorem witness_StepKeepsInvariants :
    ModeInv w1 ∧ MemoryInv w1 ∧ UnitInv w1 ∧ UnitInv dmaHalfway ∧ (∃ t, step w1 = .next t) ∧
      ∃ t, step dmaHalfway = .next t := by
  refine ⟨?_, ?_, ?_, ?_, ⟨_, rfl⟩, _, rfl⟩
  · unfold ModeInv; decide
  · unfold MemoryInv; decide
  · unfold UnitInv; decide
  · unfold UnitInv; decide

theorem witness_EffectiveAddresses :
    isImm (.dpindly 0x10) = false ∧ pointerBytes w0 (.dpindly 0x10) = [0x000010, 0x000011, 0x000012] ∧
    (∀ n ∈ [0x000010, 0x000011, 0x000012], NoRegister w0 (addr n)) ∧
    isImm (.srindy 0xFF) = false ∧ pointerBytes w1 (.srindy 0xFF) = [0x001EFF, 0x001F00] ∧
    (∀ n ∈ [0x001EFF, 0x001F00], NoRegister w1 (addr n)) ∧
    isImm (.absx 0xFFFF) = false := by
  unfold NoRegister; decide +kernel

theorem witness_OperandValue :
    operandBytes .read .w8 (.dpindl 0x10) w0 = [0x000010, 0x000011, 0x000012, 0x7E3000] ∧
    (∀ n ∈ [0x000010, 0x000011, 0x000012, 0x7E3000], NoRegister w0 (addr n)) ∧
    operandBytes .read .w16 (.absx 0x3001) w1 = [0x7F3000, 0x7F3001] ∧
    (∀ n ∈ [0x7F3000, 0x7F3001], NoRegister w1 (addr n)) := by
  unfold NoRegister; decide +kernel

theorem witness_LoadResults :
    ldaMode (.ldaDpindl 0x10) = some (.dpindl 0x10) ∧ ldxMode (.ldxDpy 0x10) = some (.dpy 0x10) ∧
    ldyMode (.ldyAbsx 0x3000) = some (.absx 0x3000) ∧
    operandBytes .read w0.cpu.mw (.dpindl 0x10) w0 = [0x000010, 0x000011, 0x000012, 0x7E3000] ∧
    (∀ n ∈ [0x000010, 0x000011, 0x000012, 0x7E3000], NoRegister w0 (addr n)) := by
  unfold NoRegister; decide +kernel

theorem witness_AdcSbcResults :
    adcMode (.adcAbs 0x3000) = some (.abs 0x3000) ∧ sbcMode (.sbcSr 0x10) = some (.sr 0x10) ∧
    operandBytes .read w1.cpu.mw (.abs 0x3000) w1 = [0x7E3000, 0x7E3001] ∧
    (∀ n ∈ [0x7E3000, 0x7E3001], NoRegister w1 (addr n)) ∧
    operandBytes .read w1.cpu.mw (.sr 0x10) w1 = [0x001E10, 0x001E11] ∧
    (∀ n ∈ [0x001E10, 0x001E11], NoRegister w1 (addr n)) := by
  unfold NoRegister; decide +kernel

theorem witness_AddCoreDecimal :
    validBcd .w8 (low .w8 0x0099) ∧ validBcd .w8 (low .w8 0x0000) ∧ validBcd .w16 (low .w16 0x9999) ∧
    validBcd .w16 (low .w16 0x0000) := by
  unfold validBcd; decide +kernel

theorem witness_CompareResults :
    cmpMode (.cmpDp 0x10) = some (.dp 0x10) ∧ cpxMode (.cpxAbs 0x3000) = some (.abs 0x3000) ∧
    cpyMode (.cpyImm (.b8 0xFF)) = some (.imm (.b8 0xFF)) ∧
    operandBytes .read w1.cpu.xw (.abs 0x3000) w1 = [0x7E3000, 0x7E3001] ∧
    (∀ n ∈ [0x7E3000, 0x7E3001], NoRegister w1 (addr n)) := by
  unfold NoRegister; decide +kernel

theorem witness_LogicResults :
    andMode (.andLong 0x7E3000) = some (.long 0x7E3000) ∧ oraMode (.oraDpind 0x10) = some (.dpind 0x10) ∧
    eorMode (.eorDpindy 0x10) = some (.dpindy 0x10) ∧
    operandBytes .read w1.cpu.mw (.dpindy 0x10) w1 = [0x000010, 0x000011, 0x7F2FFF, 0x7F3000] ∧
    (∀ n ∈ [0x000010, 0x000011, 0x7F2FFF, 0x7F3000], NoRegister w1 (addr n)) := by
  unfold NoRegister; decide +kernel

theorem witness_BitResults :
    bitMode (.bitAbsx 0x3000) = some (.absx 0x3000) ∧
    operandBytes .read w0.cpu.mw (.absx 0x3000) w0 = [0x7E3000] ∧
    (∀ n ∈ [0x7E3000], NoRegister w0 (addr n)) := by
  unfold NoRegister; decide +kernel

/-- A 16-bit store across the end of a bank, into work RAM. -/
theorem witness_StoreResults :
    staMode (.staDpindl 0x10) = some (.dpindl 0x10) ∧ stxMode (.stxDpy 0x10) = some (.dpy 0x10) ∧
    styMode (.styAbs 0xFFFF) = some (.abs 0xFFFF) ∧ stzMode (.stzAbsx 0x3000) = some (.absx 0x3000) ∧
    pointerBytes w1 (.dpindl 0x10) = [0x000010, 0x000011, 0x000012] ∧
    (∀ n ∈ [0x000010, 0x000011, 0x000012], NoRegister w1 (addr n)) ∧
    (storedAt w1.cpu.mw (effAddr .store (.dpindl 0x10) w1).1 w1.cpu.a).map Prod.fst = [0x7E3000, 0x7E3001] ∧
    (∀ n ∈ [0x7E3000, 0x7E3001], NoRegister w1 (addr n)) ∧
    (storedAt w1.cpu.xw (effAddr .store (.abs 0xFFFF) w1).1 w1.cpu.y).map Prod.fst = [0x7EFFFF, 0x7F0000] ∧
    (∀ n ∈ [0x7EFFFF, 0x7F0000], NoRegister w1 (addr n)) := by
  unfold NoRegister; decide +kernel

theorem witness_RmwMemory :
    modifyMode (.rolAbsx 0x3000) = some (.rol, .absx 0x3000) ∧ modifyMode (.tsbDp 0x10) = some (.tsb, .dp 0x10) ∧
    dataBytes w1.cpu.mw (effAddr .rmw (.absx 0x3000) w1).1 = [0x7F2FFF, 0x7F3000] ∧
    (∀ n ∈ [0x7F2FFF, 0x7F3000], NoRegister w1 (addr n)) ∧
    (modifiedAt w1.cpu.mw (effAddr .rmw (.absx 0x3000) w1).1 0x1234).map Prod.fst = [0x7F3000, 0x7F2FFF] ∧
    (∀ n ∈ [0x7F3000, 0x7F2FFF], NoRegister w1 (addr n)) := by
  unfold NoRegister; decide +kernel

theorem witness_RmwAccumulator :
    [Instr.aslAcc, .lsrAcc, .rolAcc, .rorAcc, .incAcc, .decAcc].map modifyAcc =
      [some .asl, some .lsr, some .rol, some .ror, some .inc, some .dec] := by decide

/-- The slots of pushes and pulls at both ends of page 1 in emulation mode, and at the end of bank 0 in native mode. -/
theorem witness_Pushes :
    let c := { w0 with cpu := { w0.cpu with s := 0x0100 } }
    (pushedAt (pushSlot c.cpu) [0x12, 0x34]).map Prod.fst = [0x000100, 0x0001FF] ∧
    (∀ n ∈ [0x000100, 0x0001FF], NoRegister c (addr n)) ∧
    (pushedAt (pushSlot c.cpu) [0x12, 0x34]).map Prod.fst = [0x000100, 0x0001FF] ∧
    (pushedAt (pushSlot w1.cpu) [0x12, 0x34]).map Prod.fst = [0x001E00, 0x001DFF] ∧
    (∀ n ∈ [0x001E00, 0x001DFF], NoRegister w1 (addr n)) := by
  unfold NoRegister; decide +kernel

theorem witness_FullPushes :
    let c := { w0 with cpu := { w0.cpu with s := 0x0100 } }
    (pushedAt (fullPushSlot c.cpu) [0x12, 0x34]).map Prod.fst = [0x000100, 0x0000FF] ∧
    (∀ n ∈ [0x000100, 0x0000FF], NoRegister c (addr n)) ∧
    (pushedAt (fullPushSlot c.cpu) [0x12, 0x34]).map Prod.fst = [0x000100, 0x0000FF] ∧
    (addr (dpaNat c.cpu 0xFF 0), addr (dpaNat c.cpu 0xFF 1)) = (0x0000FF, 0x000000) ∧
    NoRegister c 0x0000FF ∧ NoRegister c 0x000000 := by
  unfold NoRegister; decide +kernel

theorem witness_Pulls :
    (pullSlot w0.cpu 1, pullSlot w0.cpu 2, fullPullSlot w0.cpu 1, fullPullSlot w0.cpu 2) =
      (0x000100, 0x000101, 0x000200, 0x000201) ∧
    (∀ n ∈ [0x000100, 0x000101, 0x000200, 0x000201], NoRegister w0 (addr n)) ∧
    (pullSlot w1.cpu 1, pullSlot w1.cpu 2) = (0x001E01, 0x001E02) ∧
    (∀ n ∈ [0x001E01, 0x001E02], NoRegister w1 (addr n)) := by
  unfold NoRegister; decide +kernel

theorem witness_BlockMove :
    (long 0x7E w1.cpu.x, long 0x7F w1.cpu.y) = (0x7EFFFF, 0x7FFFFF) ∧ NoRegister w1 0x7EFFFF ∧ NoRegister w1 0x7FFFFF ∧
    ({ w1 with cpu := { w1.cpu with a := 0 } } : State).cpu.a = 0 := by
  unfold NoRegister; decide +kernel

/-- Every branch taken in some status and not taken in another; with and without a change of page. -/
theorem witness_Branches :
    [Instr.bpl 5, .bvc 5, .bcc 5, .bne 5, .bra 5].map (branchOf (statusOf 0x00)) = List.replicate 5 (some (true, 5)) ∧
    [Instr.bpl 5, .bvc 5, .bcc 5, .bne 5].map (branchOf (statusOf 0xC3)) = List.replicate 4 (some (false, 5)) ∧
    [Instr.bmi 5, .bvs 5, .bcs 5, .beq 5].map (branchOf (statusOf 0xC3)) = List.replicate 4 (some (true, 5)) ∧
    [Instr.bmi 5, .bvs 5, .bcs 5, .beq 5].map (branchOf (statusOf 0x00)) = List.replicate 4 (some (false, 5)) ∧
    (w0.cpu.e = true ∧ w1.cpu.e = false) := by decide

theorem witness_Jumps :
    [long 0x00 0xFFFE, long 0x00 (0xFFFE + 1), long 0x00 (0xFFFE + 2)] = [0x00FFFE, 0x00FFFF, 0x000000] ∧
    (∀ n ∈ [0x00FFFE, 0x00FFFF, 0x000000], NoRegister w0 (addr n)) ∧
    [long w1.cpu.pb (0x1000 + w1.cpu.x), long w1.cpu.pb (0x1000 + w1.cpu.x + 1)] = [0x000FFF, 0x001000] ∧
    (∀ n ∈ [0x000FFF, 0x001000], NoRegister w1 (addr n)) := by
  unfold NoRegister; decide +kernel

theorem witness_Calls :
    (pushedAt (pushSlot w0.cpu) (highFirst (w0.cpu.pc - 1))).map Prod.fst = [0x0001FF, 0x0001FE] ∧
    (∀ n ∈ [0x0001FF, 0x0001FE], NoRegister w0 (addr n)) ∧
    (pushedAt (fullPushSlot w0.cpu) (w0.cpu.pb :: highFirst w0.cpu.pc)).map Prod.fst = [0x0001FF, 0x0001FE, 0x0001FD] ∧
    (∀ n ∈ [0x0001FF, 0x0001FE, 0x0001FD], NoRegister w0 (addr n)) ∧
    NoRegister w0 (long w0.cpu.pb w0.cpu.pc) ∧
    (let b := storesOf w0.bus (pushedAt (fullPushSlot w0.cpu) (highFirst w0.cpu.pc))
     let p := word (busByte b (lo w0.cpu.pc) (long w0.cpu.pb w0.cpu.pc)) 0x34 + w0.cpu.x
     (long w0.cpu.pb p, long w0.cpu.pb (p + 1)) = (0x00A734, 0x00A735)) ∧
    NoRegister w0 0x00A734 ∧ NoRegister w0 0x00A735 := by
  unfold NoRegister; decide +kernel

theorem witness_Returns :
    [1, 2, 3].map (pullSlot w0.cpu) = [0x000100, 0x000101, 0x000102] ∧
    [1, 2, 3].map (fullPullSlot w0.cpu) = [0x000200, 0x000201, 0x000202] ∧
    (∀ n ∈ [0x000100, 0x000101, 0x000102, 0x000200, 0x000201, 0x000202], NoRegister w0 (addr n)) ∧ w0.cpu.e = true ∧
    [1, 2, 3, 4].map (pullSlot w1.cpu) = [0x001E01, 0x001E02, 0x001E03, 0x001E04] ∧
    (∀ n ∈ [0x001E01, 0x001E02, 0x001E03, 0x001E04], NoRegister w1 (addr n)) ∧ w1.cpu.e = false := by
  unfold NoRegister; decide +kernel

theorem witness_BrkCop :
    (pushedAt (pushSlot w0.cpu) (frameOf w0.cpu 0x34)).map Prod.fst = [0x0001FF, 0x0001FE, 0x0001FD] ∧
    (∀ n ∈ [0x0001FF, 0x0001FE, 0x0001FD], NoRegister w0 (addr n)) ∧
    (pushedAt (pushSlot w1.cpu) (frameOf w1.cpu 0x00)).map Prod.fst = [0x001E00, 0x001DFF, 0x001DFE, 0x001DFD] ∧
    (∀ n ∈ [0x001E00, 0x001DFF, 0x001DFE, 0x001DFD], NoRegister w1 (addr n)) ∧
    (∀ n ∈ [0x00FFFE, 0x00FFFF, 0x00FFE6, 0x00FFE7, 0x00FFF4, 0x00FFF5, 0x00FFE4, 0x00FFE5],
      NoRegister w0 (addr n) ∧ NoRegister w1 (addr n)) := by
  unfold NoRegister; decide +kernel

/-- A machine whose cartridge device obeys its write-protect flag. -/
def patched (on : Bool) : State :=
  let s := withRom [] w0
  { s with bus := { s.bus with devices := [{ size := 0x8000, patchable := true, writeProtect := on, cells := [] }] } }

theorem witness_MemoryWriteRead :
    (w0.bus.memoryOk = true ∧ (patched true).bus.memoryOk = true ∧ (patched false).bus.memoryOk = true) ∧
    (w0.bus.resolve 0x7E0000 ≠ w0.bus.resolve 0x7FFFFF ∧ NoRegister w0 0x7FFFFF) ∧
    (w0.bus.resolve 0x7E1FFF = .wram 0x1FFF ∧ w0.bus.isMirror 0x7E1FFF 0x801FFF = true) ∧
    (∀ on ∈ [true, false], (patched on).bus.resolve 0x00FFFF = .dev 0 0x7FFF ∧
      (patched on).bus.devices[0]? = some { size := 0x8000, patchable := true, writeProtect := on, cells := [] } ∧
      (patched on).bus.isMirror 0x00FFFF 0x00FFFF = true) ∧
    w0.bus.resolve 0x006000 = .unmapped 0x006000 := by
  unfold NoRegister; decide +kernel

theorem witness_FixedSystemMap :
    w0.bus.maps = fixedMaps ∧
    [ (0x000000 : Addr), 0x3F1FFF, 0x002000, 0xBF5FFF, 0x006000, 0x400000, 0x7E0000, 0x7FFFFF, 0xC00000 ].map w0.bus.resolve =
    [ .wram 0, .wram 0x1FFF, .mmio 0x002000, .mmio 0xBF5FFF, .unmapped 0x006000, .unmapped 0x400000, .wram 0, .wram 0x1FFFF
    , .unmapped 0xC00000 ] ∧
    (w0.bus.byteAt 0xBF5FFF = none ∧ w0.bus.isMirror 0xBF5FFF 0xBF5FFF = true) ∧
    (w0.bus.byteAt 0x006000 = none ∧ w0.bus.isMirror 0x006000 0x006000 = true ∧
      w0.bus.isMirror 0x006000 0x806000 = false) := by decide

/-- A window of two banks with a running index that wraps. -/
def window (mode : MapMode) : MapRequest :=
  { mode := mode, bankLo := 0x40, bankHi := 0x41, addrLo := 0xFE00, addrHi := 0xFFFF, dev := .cart 0, offset := 0, size := 0x300 }

theorem witness_MirrorAndMapLoops :
    (0x5FFF < 2 ^ 24 ∧ 0x5FFF < 0x6000) ∧ (0 : Nat) < 1 ∧ (0x6000 ≤ 0x6000 ∧ 0x6000 < 0x8000) ∧
    (0x41, 0xFF, 0x000) ∈ linearWalk (window .linear).size
      (span (pageOf (window .linear).addrLo) (pageOf (window .linear).addrHi))
      (span (window .linear).bankLo (window .linear).bankHi) 0 ∧
    (0x40, 0xFE, 0x200) ∈ shadowWalk (window .shadow).size (pageOf (window .shadow).addrLo) (pageOf (window .shadow).addrHi)
      (span (pageOf (window .shadow).addrLo) (pageOf (window .shadow).addrHi))
      (span (window .shadow).bankLo (window .shadow).bankHi) 0 := by decide

/-- Both ends of every region of the table; the hypotheses are ranges and exclude each other. -/
theorem witness_SpeedTable :
    [ (0x000000 : Addr), 0xBF1FFF, 0x002000, 0x803FFF, 0x004000, 0x3F41FF, 0x004200, 0x805FFF, 0x006000, 0x3F7FFF, 0x008000
    , 0x3FFFFF, 0x808000, 0xBFFFFF, 0x400000, 0x7FFFFF, 0xC00000, 0xFFFFFF ].map (speed true) =
    [8, 8, 6, 6, 12, 12, 6, 6, 8, 8, 8, 8, 6, 6, 8, 8, 6, 6] := by decide

/-- A read, a store to work RAM and a store to a register, with the controller at rest. -/
theorem witness_SpeedTable_cycles :
    Quiet w0 ∧ Quiet (busWrite 0x7E0000 0x12 w0) ∧ Quiet (busWrite 0x004203 0x12 w0) := by
  unfold Quiet; decide +kernel

/-- The CPU's own registers are reached in bank 0x00 and in bank 0xBF. -/
theorem witness_CpuReg :
    (∀ o ∈ [0x2180, 0x2181, 0x2182, 0x2183, 0x4016, 0x4017, 0x4200, 0x4201, 0x4202, 0x4203, 0x4204, 0x4205, 0x4206, 0x4207, 0x4208, 0x4209, 0x420A
      , 0x420B, 0x420C, 0x420D, 0x4210, 0x4211, 0x4212, 0x4213, 0x4214, 0x4215, 0x4216, 0x4217, 0x4218, 0x4219, 0x421A
      , 0x421B, 0x421C, 0x421D, 0x421E, 0x421F], CpuReg w0 (addr o) o ∧ CpuReg w0 (addr (0xBF0000 + o)) o) ∧
    (∀ o ∈ [0x4300, 0x430B, 0x430F, 0x437C, 0x437F], CpuReg w0 (addr o) o) := by
  unfold CpuReg; decide +kernel

theorem witness_MultiplyDivide :
    (Alu.init.mpyctr = 0 ∧ Alu.init.divctr = 0) ∧ (({ Alu.init with mpyctr := 8 } : Alu).mpyctr ≠ 0) ∧
    (({ Alu.init with divctr := 1 } : Alu).divctr ≠ 0) ∧ Quiet w0 ∧ w0.alu.mpyctr = 0 ∧ w0.alu.divctr = 0 := by
  unfold Quiet; decide +kernel

theorem witness_Joypads :
    let s := { w0 with clk := { w0.clk with vcounter := 225, hcounter := 2 } }
    CpuReg w0 0x004016 0x4016 ∧ CpuReg w0 0x004017 0x4017 ∧ s.clk.vcounter = s.params.vdisp ∧ s.clk.hcounter = 2 := by
  unfold CpuReg; decide +kernel

theorem witness_EdgeBecomesPending :
    let q : IntSource := { valid := true, flag := true, transition := true, pending := false, hold := 0 }
    (q.transition = true ∧ q.hold = 0) ∧ (IntSource.init.transition = false ∧ IntSource.init.hold = 0) ∧
    (w0.params.irqLevelMode = false ∧ w0.intr.extIrq = false ∧ w0.intr.extIrqIn = []) ∧
    (polls 1 1 q).pending = false ∧ (polls 1 2 q).pending = true := by decide

/-- The external line: no coprocessor; one that drives it high, with the IRQ idle; and the actions that change it. -/
theorem witness_EdgeBecomesPending_external :
    let s := { w0 with intr := { w0.intr with extIrqIn := [true] }, sched := { w0.sched with coprocs := [⟨4, 0, 3⟩] } }
    w0.sched.coprocs = [] ∧ s.sched.coprocs ≠ [] ∧
    ((poll s).intr.extIrq = true ∧ s.intr.irq.pending = false ∧ s.intr.irq.hold = 0) ∧
    (∃ t, hostAction .unloadCart s = .next t) ∧ (∃ t, hostAction (.loadCart (harness [])) s = .next t) ∧
    (∃ t, hostAction (.extIrq true) s = .next t) := ⟨rfl, by decide, by decide, ⟨_, rfl⟩, ⟨_, rfl⟩, ⟨_, rfl⟩⟩

/-- The statement has no hypotheses; each clause that changes something does so at some position. -/
theorem witness_MasterClock :
    let at_ := fun (h v : Nat) => clockBare { w0 with clk := { w0.clk with hcounter := h, vcounter := v } }
    ((at_ 1363 0).clk.hcounter, (at_ 1363 0).clk.vcounter) = (0, 1) ∧
    ((at_ 1363 261).clk.vcounter, (at_ 1363 261).clk.field, (at_ 1363 261).clk.quantumOver) = (0, true, true) ∧
    (at_ 1 225).intr.nmi.flag = true ∧ (at_ 2 225).intr.nmi.flag = false ∧
    ((at_ 1400 0).clk.hcounter, (at_ 1363 300).clk.vcounter) = (1401, 301) := by decide

theorem witness_CycleTime :
    let s := { w0 with clk := { w0.clk with hcounter := 537 } }
    (w0.clk.hcounter + 537 < w0.clk.lineClocks ∧ w0.clk.hcounter + 537 < w0.clk.dramRefreshPosition) ∧
    (s.clk.hcounter + 12 + 40 < s.clk.lineClocks ∧ s.clk.dramRefreshed = false ∧
      s.clk.hcounter < s.clk.dramRefreshPosition ∧ s.clk.dramRefreshPosition ≤ s.clk.hcounter + 12) := by decide

theorem witness_SynchronizeCatchesUp :
    ({ w0 with sched := { w0.sched with coprocs := [⟨4, 0, 3⟩] } } : State).sched.coprocs[0]? = some ⟨4, 0, 3⟩ := rfl

theorem witness_DmaAddressing :
    dmaAddrValid 0x002100 = false ∧ dmaAddrValid 0x0020FF = true ∧ dmaAddrValid 0x00437F = false ∧
    dmaAddrValid 0x004380 = true ∧ dmaAddrValid 0x400000 = true := by decide

theorem witness_GeneralDmaCompletes :
    let s := dmaState 0x10 0x00 0x8100 2
    s.dma.pending = true ∧ s.dma.hdmaPending = false ∧ (∀ n : Fin 8, (s.ch n).hdmaEnabled = false) ∧ SystemMmio s ∧
    s.dma.active = false ∧ s.dma.running = false ∧ s.dma.clocks = 0 ∧
    (s.ch 0).dmaEnabled = true ∧ (s.ch 1).dmaEnabled = false := by
  unfold SystemMmio; decide +kernel

theorem witness_DmaCopiesToWorkRam :
    let s := dmaState 0x00 0x00 0x8100 4
    s.dma.pending = true ∧ s.dma.hdmaPending = false ∧ s.dma.active = false ∧ s.dma.running = false ∧
    (∀ k : Fin 8, (s.ch k).hdmaEnabled = false) ∧ (∀ k : Fin 8, (s.ch k).dmaEnabled = decide (k = 0)) ∧ s.bus.memoryOk = true ∧ CpuReg s 0x002180 0x2180 ∧
    (s.ch 0).dmap = 0x00 ∧ (s.ch 0).bbad = 0x80 ∧ count (s.ch 0) = 4 ∧
    (∀ i < 4, let a := long (s.ch 0).a1b ((s.ch 0).a1t + BitVec.ofNat 16 i)
      dmaAddrValid a = true ∧ (∃ k j, s.bus.resolve a = .dev k j) ∧ (s.bus.byteAt a).isSome = true) := by
  refine ⟨rfl, rfl, rfl, rfl, by decide, by decide, by decide, ?_, by decide, by decide, by decide, ?_⟩
  · unfold CpuReg; decide
  · intro i hi
    have h : ∀ i < 4, (dmaState 0x00 0x00 0x8100 4).bus.resolve (long 0x00 (0x8100 + BitVec.ofNat 16 i)) =
        .dev 0 (0x100 + i) := by decide
    have k : ∀ i < 4, dmaAddrValid (long 0x00 (0x8100 + BitVec.ofNat 16 i)) = true ∧
        ((dmaState 0x00 0x00 0x8100 4).bus.byteAt (long 0x00 (0x8100 + BitVec.ofNat 16 i))).isSome = true := by decide
    exact ⟨(k i hi).1, ⟨0, 0x100 + i, h i hi⟩, (k i hi).2⟩

theorem witness_WramConflict :
    w0.bus.resolve 0x7E1000 = .wram 0x1000 ∧ w0.bus.memoryOk = true ∧ dmaAddrValid 0x7E1000 = true := by decide

/-- The HDMA machine with another table and another mode on channel 0. -/
def hdmaTableState (dmap : Byte) (table : List Byte) : State :=
  let s := withRom [(0x9000, table), (0xA000, [0x77, 0x78, 0x79, 0x7A])] hdmaState
  s.updCh 0 (fun c => { c with dmap := dmap, dasb := 0x00 })

/-- The table's bytes a reload needs lie in storage the controller reaches. -/
def TableReadable (s : State) (from_ : Word) (k : Nat) : Prop :=
  ∀ j < k, dmaAddrValid (long (s.ch 0).a1b (from_ + BitVec.ofNat 16 j)) = true ∧
    Storage s (long (s.ch 0).a1b (from_ + BitVec.ofNat 16 j))

/-- A direct table, a table of pointers, and a table that ends at once, whose last byte is the last one of the cartridge. -/
theorem witness_HdmaInitChannel :
    ((hdmaState.ch 0).hdmaEnabled = true ∧ TableReadable hdmaState 0x9000 1) ∧
    (let s := hdmaTableState 0x40 [0x82, 0x00, 0xA0]
     (s.ch 0).hdmaEnabled = true ∧ bit (s.ch 0).dmap.toNat 6 = true ∧ busByte s.bus 0 0x009000 = 0x82 ∧
       TableReadable s 0x9000 3) ∧
    (let s := (withRom [(0xFFFF, [0x00])] hdmaState).updCh 0 (fun c => { c with dmap := 0x40, a1t := 0xFFFF })
     (s.ch 0).hdmaEnabled = true ∧ busByte s.bus 0 0x00FFFF = 0x00 ∧ TableReadable s 0xFFFF 1) := by
  unfold TableReadable Storage; decide +kernel

/-- R464: in indirect mode the header is followed by the pointer, low byte first. -/
theorem test_hdma_init_indirect :
    let t := hdmaInitChannel (hdmaTableState 0x40 [0x82, 0x01, 0xA0]) 0
    ((t.ch 0).ntrl, (t.ch 0).a2a, (t.ch 0).das, (t.ch 0).hdmaDoTransfer, (t.ch 0).hdmaCompleted, t.clk.clockCount) =
      (0x82, 0x9003, 0xA001, true, false, 24) := by decide

/-- R464: a header of 0 ends the channel, and no pointer is read after it. -/
theorem test_hdma_init_zero_header :
    let t := hdmaInitChannel (hdmaTableState 0x40 [0x00, 0x01, 0xA0]) 0
    ((t.ch 0).ntrl, (t.ch 0).a2a, (t.ch 0).das, (t.ch 0).hdmaDoTransfer, (t.ch 0).hdmaCompleted, t.clk.clockCount) =
      (0x00, 0x9001, 0xFFFF, false, true, 8) := by decide

/-- Channel 0 as its first line begins, with a unit of four bytes at 0xA000 for four registers of the video chip. -/
def hdmaUnitState (dmap : Byte) : State :=
  (hdmaTableState dmap []).updCh 0 (fun c =>
    { c with bbad := 0x18, a2a := 0xA000, das := 0xA000, ntrl := 0x81, hdmaDoTransfer := true, hdmaCompleted := false })

/-- The transfer part: a channel that is not active; one that moves a unit, to work RAM's port and, direct and indirect, to
registers of the video chip; and one with no unit on this line. -/
theorem witness_HdmaRunChannel :
    (w0.ch 0).hdmaEnabled = false ∧
    (let s := hdmaInit hdmaState
     (s.ch 0).hdmaEnabled = true ∧ (s.ch 0).hdmaCompleted = false ∧ (s.ch 0).hdmaDoTransfer = true ∧ SystemMmio s) ∧
    (let s := hdmaRun (hdmaInit hdmaState)
     (s.ch 0).hdmaEnabled = true ∧ (s.ch 0).hdmaCompleted = false ∧ (s.ch 0).hdmaDoTransfer = false) := by
  unfold SystemMmio; decide +kernel
theorem witness_HdmaRunChannel_unit :
    ∀ i : Bool, let s := hdmaUnitState (if i then 0x44 else 0x04)
     (s.ch 0).hdmaEnabled = true ∧ (s.ch 0).hdmaCompleted = false ∧ (s.ch 0).hdmaDoTransfer = true ∧
     bit (s.ch 0).dmap.toNat 7 = false ∧ AgentId.video ≠ .cpu ∧
     (∀ p ∈ unitOf (s.ch 0), dmaAddrValid p.2 = true ∧ Storage s p.2 ∧ p.1 ≠ 0x80 ∧
       (s.bus.resolve (long 0x00 (word 0x21 p.1))).isRegister = true ∧
       s.bus.owner (long 0x00 (word 0x21 p.1)) = some .video) := by
  have h : ∀ i : Bool, let s := hdmaUnitState (if i then 0x44 else 0x04)
      (unitOf (s.ch 0)).all (fun p => decide (dmaAddrValid p.2 = true ∧ (s.bus.byteAt p.2).isSome = true ∧ p.1 ≠ 0x80 ∧
        (s.bus.resolve (long 0x00 (word 0x21 p.1))).isRegister = true ∧
        s.bus.owner (long 0x00 (word 0x21 p.1)) = some .video)) = true := by decide
  exact fun i => ⟨by cases i <;> rfl, by cases i <;> rfl, by cases i <;> rfl, by cases i <;> rfl, by decide,
    fun p hp => by unfold Storage; exact of_decide_eq_true (List.all_eq_true.mp (h i) p hp)⟩

/-- R445, R465: such a unit's bytes, sent in order to 0x2118 to 0x211B (the newest event is the first). -/
theorem test_hdma_unit_to_video :
    (hdmaTransferChannel (hdmaUnitState 0x44) 0).ext.events.map (fun e => match e with
      | .write g a v => (decide (g = .video), a.toNat, v.toNat)
      | _ => (false, 0, 0)) =
    [(true, 0x211B, 0x7A), (true, 0x211A, 0x79), (true, 0x2119, 0x78), (true, 0x2118, 0x77)] := by decide

/-- The count part: lines left; and the next table entry due, direct, with a pointer, and the end of the table. -/
theorem witness_HdmaRunChannel_count :
    (let c := (hdmaInit hdmaState).ch 0
     c.hdmaEnabled = true ∧ c.hdmaCompleted = false ∧ (c.ntrl.toNat + 255) % 256 % 128 ≠ 0) ∧
    (∀ m : Fin 3, let s := hdmaInit (hdmaTableState (if m = 0 then 0x00 else 0x40)
          (if m = 0 then [0x01, 0x11, 0x82, 0x22] else if m = 1 then [0x01, 0x00, 0xA0, 0x82, 0x02, 0xA0]
           else [0x01, 0x00, 0xA0, 0x00]))
     let c := s.ch 0
     c.hdmaEnabled = true ∧ c.hdmaCompleted = false ∧ (c.ntrl.toNat + 255) % 256 % 128 = 0 ∧
     bit c.dmap.toNat 6 = decide (m ≠ 0) ∧ TableReadable s c.a2a 3) := by
  unfold TableReadable Storage; decide +kernel

/-- R464: the entry after an indirect one is read past its pointer. -/
theorem test_hdma_reload_indirect :
    let t := hdmaCountChannel (hdmaInit (hdmaTableState 0x40 [0x01, 0x00, 0xA0, 0x82, 0x02, 0xA0])) 0
    ((t.ch 0).ntrl, (t.ch 0).a2a, (t.ch 0).das, (t.ch 0).hdmaDoTransfer) = (0x82, 0x9006, 0xA002, true) := by decide

/-- R465: an indirect unit comes from DASBn:DASn, which steps; the table pointer stays. -/
theorem test_hdma_indirect_unit :
    let s := hdmaInit (hdmaTableState 0x40 [0x82, 0x00, 0xA0])
    let t := hdmaTransferChannel s 0
    (ram t 0x40, (t.ch 0).das, (t.ch 0).a2a, t.io.wmadd) = (0x77, 0xA001, 0x9003, 0x41) := by decide

/-- Log entry 27: a header of 0x80, with 127 lines left after its first: by R465's pseudocode no unit is moved on them, by R464's
words one on each. -/
theorem test_hdma_header_0x80 :
    let s := fun (words : Bool) =>
      { hdmaTableState 0x00 [0x80, 0x11] with params := { w0.params with hdmaRepeat128 := words } }
    let t := hdmaCountChannel (hdmaInit (s false)) 0
    let u := hdmaCountChannel (hdmaInit (s true)) 0
    ((t.ch 0).ntrl, (t.ch 0).hdmaDoTransfer) = (0x7F, false) ∧ ((u.ch 0).ntrl, (u.ch 0).hdmaDoTransfer) = (0xFF, true) := by
  decide

/-! ### Points the spec's files leave open (notes/assumptions) -/

/-- Log entry 26: sr,S past the end of page 1 in emulation mode, by R175's formula and by R176's words. -/
theorem test_stack_relative_page :
    let s := fun (b : Bool) => { w0 with params := { w0.params with srPageWrap := b } }
    ((effAddr .read (.sr 0x10) (s false)).1.byte 0, (effAddr .read (.sr 0x10) (s true)).1.byte 0) =
      (0x00020F, 0x00010F) := by decide

/-- R567: interrupt_vector holds the vector of the entry that BRK makes. -/
theorem test_brk_writes_interrupt_vector :
    (after (machine { emu with pc := 0x200 } [(0x200, [0x00, 0x01])])).intr.interruptVector = 0xFFFE := by decide

/-- R551: with the cartridge its coprocessors go, and the external level with them. -/
theorem test_unload_clears_external_irq :
    let s := { w0 with intr := { w0.intr with extIrq := true }, sched := { w0.sched with coprocs := [⟨4, 0, 3⟩] } }
    (after { s with hostIn := [[.unloadCart]] }).intr.extIrq = false := by decide

/-- R147: a write-protect flag changes with a reset, before anything runs. -/
theorem test_reset_sets_write_protect :
    (after { patched false with hostIn := [[.reset [(0, true)]]] }).bus.devices.map MemDevice.writeProtect = [true] := by decide

/-- R597: the run quantum ends with the step in which the counter passes line 0, position 0. -/
theorem test_run_quantum_ends_at_frame_start :
    let s := { w0 with clk := { w0.clk with vcounter := 261, hcounter := 1360 } }
    (match runQuantum 3 s with
     | .next t => some (t.clk.vcounter, t.clk.quantumOver, t.cpu.pc)
     | _ => none) = some (0, true, 0x202) := by decide

/-- R301: digits above 9 (0x0F + 0x0F). -/
theorem test_decimal_digits_above_9 :
    let r := addCore .w8 false true 0x0F 0x0F false
    (r.value, r.c) = (0x14, false) := by decide

end Sys2Proof.Tests
end

section
/-! PROOFS. No instruction stops, and a step is refused only for a cartridge that is a configuration error
(00_scope.md R15; 60_exceptions.md R540; 20_memory.md R117, R120). -/

namespace Sys2Proof.Machine

/-! ### The block's own step always answers a state -/

/-- R15, R540: every arm of `exec` ends in a next state. -/
theorem exec_next (i : Instr) (s : State) : ∃ t, exec i s = .next t := by
  cases i <;> exact ⟨_, rfl⟩

theorem cpuStep_next (s : State) : ∃ t, cpuStep s = .next t := by
  unfold cpuStep
  split
  · exact ⟨_, rfl⟩
  · cases s.cpu.run with
    | stp => exact ⟨_, rfl⟩
    | wai => exact ⟨_, rfl⟩
    | run =>
      dsimp only
      split
      · exact exec_next _ _
      · exact ⟨_, rfl⟩

theorem machineStep_next (s : State) : ∃ t, machineStep s = .next t := by
  unfold machineStep
  split
  · exact ⟨_, rfl⟩
  · exact cpuStep_next s

/-! ### Loading a cartridge -/

/-- `claimsDistinct` says that no two entries of the list, at different places, share an address (R117). -/
theorem claimsDistinct_iff_pairwise (l : List Claim) :
    claimsDistinct l = true ↔ l.Pairwise (fun c d => c.overlaps d = false) := by
  induction l with
  | nil => simp [claimsDistinct]
  | cons c l ih => simp [claimsDistinct, ih]

theorem Claim.overlaps_of_mem {c d : Claim} {a : Nat} (hc : c.lo ≤ a ∧ a ≤ c.hi) (hd : d.lo ≤ a ∧ a ≤ d.hi) :
    c.overlaps d = true := by
  simp only [Claim.overlaps, Bool.and_eq_true, decide_eq_true_eq]
  omega

theorem claimsDistinct_append_of_overlap {l k : List Claim} {c d : Claim} (hc : c ∈ l) (hd : d ∈ k)
    (h : c.overlaps d = true) : claimsDistinct (l ++ k) = false := by
  rw [Bool.eq_false_iff, ne_eq, claimsDistinct_iff_pairwise, List.pairwise_append]
  rintro ⟨-, -, hdisjoint⟩
  exact absurd h (by simp [hdisjoint c hc d hd])

theorem loadCart_badMapping {c : Cart} (s : State) (h : ∃ r ∈ c.maps, MapRequest.admitted c.devices r = false) :
    loadCart c s = .refused .badMapping := by
  have hall : c.maps.all (MapRequest.admitted c.devices) = false := List.all_eq_false.2 (by simpa using h)
  simp [loadCart, hall]

theorem loadCart_claimedTwice {c : Cart} (s : State) (hmaps : ∀ r ∈ c.maps, MapRequest.admitted c.devices r = true)
    (hclaims : claimsDistinct (c.claims ++ fixedClaims) = false) : loadCart c s = .refused .claimedTwice := by
  have hall : c.maps.all (MapRequest.admitted c.devices) = true := List.all_eq_true.2 hmaps
  simp [loadCart, hall, hclaims]

/-! ### The host's actions -/

/-- R120: a next state, or one of the two configuration errors. -/
def NextOrConfigurationError (o : Host.Outcome State Fault Refusal) : Prop :=
  (∃ t, o = .next t) ∨ o = .refused .badMapping ∨ o = .refused .claimedTwice

theorem loadCart_outcome (c : Cart) (s : State) : NextOrConfigurationError (loadCart c s) := by
  unfold loadCart
  split
  · exact .inr (.inl rfl)
  · split
    · exact .inr (.inr rfl)
    · exact .inl ⟨_, rfl⟩

/-- R120: an action other than the load of a cartridge is never refused. -/
theorem hostAction_next {a : HostAction} (s : State) (h : ∀ c, a ≠ .loadCart c) : ∃ t, hostAction a s = .next t := by
  cases a with
  | loadCart c => exact absurd rfl (h c)
  | _ => exact ⟨_, rfl⟩

theorem hostAction_outcome (a : HostAction) (s : State) : NextOrConfigurationError (hostAction a s) := by
  by_cases h : ∃ c, a = .loadCart c
  · obtain ⟨c, rfl⟩ := h
    exact loadCart_outcome c s
  · exact .inl (hostAction_next s (not_exists.1 h))

theorem hostActions_cons_next {a : HostAction} {l : List HostAction} {s t : State} (h : hostAction a s = .next t) :
    hostActions (a :: l) s = hostActions l t := by
  simp only [hostActions, h]

theorem hostActions_cons_refused {a : HostAction} {l : List HostAction} {s : State} {r : Refusal}
    (h : hostAction a s = .refused r) : hostActions (a :: l) s = .refused r := by
  simp only [hostActions, h]

theorem hostActions_next {l : List HostAction} (s : State) (h : ∀ a ∈ l, ∀ c, a ≠ .loadCart c) :
    ∃ t, hostActions l s = .next t := by
  induction l generalizing s with
  | nil => exact ⟨s, rfl⟩
  | cons a l ih =>
    obtain ⟨t, ht⟩ := hostAction_next s (h a List.mem_cons_self)
    rw [hostActions_cons_next ht]
    exact ih t fun b hb => h b (List.mem_cons_of_mem a hb)

theorem hostActions_outcome (l : List HostAction) (s : State) : NextOrConfigurationError (hostActions l s) := by
  induction l generalizing s with
  | nil => exact .inl ⟨s, rfl⟩
  | cons a l ih =>
    obtain ⟨t, ht⟩ | hr | hr := hostAction_outcome a s
    · rw [hostActions_cons_next ht]
      exact ih t
    · exact .inr (.inl (hostActions_cons_refused hr))
    · exact .inr (.inr (hostActions_cons_refused hr))

theorem takeHostInput_next {s : State} (h : ∀ l ∈ s.hostIn.head?, ∀ a ∈ l, ∀ c, a ≠ HostAction.loadCart c) :
    ∃ t, takeHostInput s = .next t := by
  unfold takeHostInput
  split
  · exact ⟨s, rfl⟩
  next l rest hin => exact hostActions_next _ (h l (by simp [hin]))

theorem takeHostInput_outcome (s : State) : NextOrConfigurationError (takeHostInput s) := by
  unfold takeHostInput
  split
  · exact .inl ⟨s, rfl⟩
  · exact hostActions_outcome _ _

/-! ### One step -/

theorem step_next_of_takeHostInput {s t : State} (h : takeHostInput s = .next t) : ∃ u, step s = .next u := by
  simpa only [step, h] using machineStep_next t

theorem step_refused_of_takeHostInput {s : State} {r : Refusal} (h : takeHostInput s = .refused r) :
    step s = .refused r := by
  simp only [step, h]

theorem step_outcome (s : State) : NextOrConfigurationError (step s) := by
  obtain ⟨t, ht⟩ | hr | hr := takeHostInput_outcome s
  · exact .inl (step_next_of_takeHostInput ht)
  · exact .inr (.inl (step_refused_of_takeHostInput hr))
  · exact .inr (.inr (step_refused_of_takeHostInput hr))

/-- Settles O4: the block's own step always answers a state (`machineStep_next`), so a step is refused exactly where the
host's actions before it are, and of those only the load of a cartridge can be. -/
theorem onlyConfigurationIsRefused : Obligations.OnlyConfigurationIsRefused := by
  unfold Obligations.OnlyConfigurationIsRefused
  refine ⟨exec_next, ?noLoad, step_outcome, ?badMapping, ?claimedTwice⟩
  case noLoad =>
    intro s h
    obtain ⟨t, ht⟩ := takeHostInput_next h
    exact step_next_of_takeHostInput ht
  case badMapping =>
    exact fun c s h => loadCart_badMapping s h
  case claimedTwice =>
    rintro c s hmaps ⟨c1, hc1, c2, hc2, a, hlo1, hhi1, hlo2, hhi2⟩
    have hoverlap : c1.overlaps c2 = true := Claim.overlaps_of_mem ⟨hlo1, hhi1⟩ ⟨hlo2, hhi2⟩
    exact loadCart_claimedTwice s hmaps (claimsDistinct_append_of_overlap hc1 hc2 hoverlap)

end Sys2Proof.Machine
end

section
/-! PROOFS. The registers' mode (10_state.md R32-R34): what every register operation keeps of it. -/

namespace Sys2Proof.Machine

/-- R33 and R32: emulation mode forces the widths to 8 bits, and 8-bit index registers have high bytes 0. -/
def Cpu.WidthOk (c : Cpu) : Prop :=
  (c.e = true → c.p.m = true ∧ c.p.x = true) ∧ (c.p.x = true → hi c.x = 0 ∧ hi c.y = 0)

/-- `WidthOk`, and R34's SH = 0x01 in emulation mode. -/
def Cpu.ModeOk (c : Cpu) : Prop := c.WidthOk ∧ (c.e = true → hi c.s = 0x01)

/-- The mode invariant is one of the registers alone. -/
theorem modeInv_iff (s : State) : ModeInv s ↔ s.cpu.ModeOk := by
  unfold ModeInv Cpu.ModeOk Cpu.WidthOk
  constructor
  · rintro ⟨he, hx⟩
    exact ⟨⟨fun h => ⟨(he h).1, (he h).2.1⟩, hx⟩, fun h => (he h).2.2⟩
  · rintro ⟨⟨he, hx⟩, hs⟩
    exact ⟨fun h => ⟨(he h).1, (he h).2, hs h⟩, hx⟩

theorem Cpu.WidthOk.modeOk_of_native {c : Cpu} (h : c.WidthOk) (he : c.e = false) : c.ModeOk := by
  refine ⟨h, fun he' => ?_⟩
  rw [he] at he'
  cases he'

/-- A write of S makes SH what R34 asks for, whatever it was. -/
theorem Cpu.WidthOk.setS {c : Cpu} (h : c.WidthOk) (v : Word) : (c.setS v).ModeOk := by
  refine ⟨h, fun he => ?_⟩
  have he : c.e = true := he
  simp [Cpu.setS, he]

theorem Cpu.ModeOk.setS {c : Cpu} (h : c.ModeOk) (v : Word) : (c.setS v).ModeOk := h.1.setS v

theorem Cpu.WidthOk.withStatus {c : Cpu} (h : c.WidthOk) {p : Status} (hm : p.m = c.p.m) (hx : p.x = c.p.x) :
    Cpu.WidthOk { c with p := p } := by
  unfold Cpu.WidthOk
  rw [hm, hx]
  exact h

/-- A status with the same two width bits keeps the mode. -/
theorem Cpu.ModeOk.withStatus {c : Cpu} (h : c.ModeOk) {p : Status} (hm : p.m = c.p.m) (hx : p.x = c.p.x) :
    Cpu.ModeOk { c with p := p } := ⟨h.1.withStatus hm hx, h.2⟩

theorem hi_trunc_xw {c : Cpu} (hx : c.p.x = true) (v : Word) : hi (trunc c.xw v) = 0 := by
  simp [Cpu.xw, widthOf, hx]

theorem Cpu.ModeOk.setA {c : Cpu} (h : c.ModeOk) (w : Width) (v : Word) : (c.setA w v).ModeOk := h

theorem Cpu.ModeOk.setX {c : Cpu} (h : c.ModeOk) (v : Word) : (c.setX v).ModeOk :=
  ⟨⟨h.1.1, fun hx => ⟨hi_trunc_xw hx v, (h.1.2 hx).2⟩⟩, h.2⟩

theorem Cpu.ModeOk.setY {c : Cpu} (h : c.ModeOk) (v : Word) : (c.setY v).ModeOk :=
  ⟨⟨h.1.1, fun hx => ⟨(h.1.2 hx).1, hi_trunc_xw hx v⟩⟩, h.2⟩

/-- R400: `write_P` sets the width bits and the index registers right, whatever they were. -/
theorem Cpu.writeP_widthOk (c : Cpu) (p : Status) : (c.writeP p).WidthOk := by
  unfold Cpu.writeP Cpu.WidthOk
  cases c.e <;> cases hx : p.x <;> simp [hx]

theorem Cpu.writeP_s (c : Cpu) (p : Status) : (c.writeP p).s = c.s := by
  simp only [Cpu.writeP, apply_ite Cpu.s, ite_self]
theorem Cpu.writeP_e (c : Cpu) (p : Status) : (c.writeP p).e = c.e := by
  simp only [Cpu.writeP, apply_ite Cpu.e, ite_self]

theorem Cpu.ModeOk.writeP {c : Cpu} (h : c.ModeOk) (p : Status) : (c.writeP p).ModeOk := by
  refine ⟨c.writeP_widthOk p, ?_⟩
  rw [Cpu.writeP_e, Cpu.writeP_s]
  exact h.2

/-- R414: into emulation mode XCE forces the widths and SH; into native mode nothing is asked of them. -/
theorem opXce_modeOk {c : Cpu} (h : c.ModeOk) : (opXce c).ModeOk := by
  unfold opXce
  dsimp only
  split
  next => exact (Cpu.writeP_widthOk _ _).setS _
  next he =>
    have he : c.p.c = false := by simpa using he
    exact Cpu.WidthOk.modeOk_of_native ⟨fun he' => absurd (he.symm.trans he') (by decide), h.1.2⟩ he

/-- R268: a block move counts X and Y at the index width. -/
theorem Cpu.ModeOk.moved {c : Cpu} (h : c.ModeOk) (step : Word) : (c.moved step).ModeOk := by
  have hmoved : Cpu.ModeOk { c with x := trunc c.xw (c.x + step), y := trunc c.xw (c.y + step), a := c.a - 1 } :=
    ⟨⟨h.1.1, fun hx => ⟨hi_trunc_xw hx _, hi_trunc_xw hx _⟩⟩, h.2⟩
  unfold Cpu.moved
  dsimp only
  split
  · exact hmoved
  · exact hmoved

/-- R622: the reset sequence puts the registers into emulation mode. -/
theorem Cpu.resetRegisters_modeOk (c : Cpu) : c.resetRegisters.ModeOk := by
  simp [Cpu.ModeOk, Cpu.WidthOk, Cpu.resetRegisters, Status.init]

/-- An operation on an operand that keeps the registers' mode. -/
def OperandKeepsMode (op : Width → Word → Cpu → Cpu) : Prop := ∀ w v c, Cpu.ModeOk c → (op w v c).ModeOk

/-- An operation on the registers that keeps their mode. -/
def KeepsMode (f : Cpu → Cpu) : Prop := ∀ c, Cpu.ModeOk c → (f c).ModeOk

/-- A read-modify-write operation that leaves the two width bits alone. -/
def RmwKeepsWidths (op : Width → Word → Word → Status → Rmw) : Prop :=
  ∀ w a v p, (op w a v p).p.m = p.m ∧ (op w a v p).p.x = p.x

end Sys2Proof.Machine
end

section
/-! PROOFS. What the CPU does is a chain of its operations: bus cycles, internal cycles, time, changes of its registers
and of the interrupt requests. An invariant that each operation keeps is kept by every chain (60_exceptions.md R560). -/

namespace Sys2Proof.Machine

/-- One operation of the CPU. A change of the interrupt requests moves no hold counter: only polls do, inside the
cycles. -/
inductive CpuOp : State → State → Prop where
  | read (a : Addr) (s : State) : CpuOp s (read8 a s).2
  | write (a : Addr) (v : Byte) (s : State) : CpuOp s (write8 a v s)
  | idle (s : State) : CpuOp s (idle s)
  | time (k : Nat) (s : State) : CpuOp s (spend k s)
  | registers (f : Cpu → Cpu) (s : State) : CpuOp s (s.mapCpu f)
  | request (s : State) (i : Intr) (hnmi : i.nmi.hold = s.intr.nmi.hold) (hirq : i.irq.hold = s.intr.irq.hold) :
      CpuOp s { s with intr := i }

/-- A chain of operations of the CPU. -/
abbrev CpuOps : State → State → Prop := Relation.ReflTransGen CpuOp

theorem CpuOps.keeps {P : State → Prop} (hop : ∀ s t, CpuOp s t → P s → P t) {s t : State} (h : CpuOps s t) (hs : P s) :
    P t := by
  induction h with
  | refl => exact hs
  | tail _ hlast ih => exact hop _ _ hlast ih

/-- t comes from s by operations of the CPU that together keep C of the registers. -/
structure Runs (C : Cpu → Prop) (s t : State) : Prop where
  ops : CpuOps s t
  registers : C s.cpu → C t.cpu

namespace Runs

/-! ### The operations, each one more link of the chain -/

section
variable {C : Cpu → Prop} {s t : State}

theorem refl (s : State) : Runs C s s := ⟨.refl, id⟩

theorem trans {u : State} (h : Runs C s t) (k : Runs C t u) : Runs C s u :=
  ⟨h.ops.trans k.ops, k.registers ∘ h.registers⟩

/-- A change of the registers that keeps C; by default one that C does not see. -/
theorem mapCpu (h : Runs C s t) {f : Cpu → Cpu}
    (hf : ∀ c, C c → C (f c) := by
      intro c hc
      simpa only [Cpu.ModeOk, Cpu.WidthOk, Cpu.setPc, Cpu.enter, setNZ] using hc) :
    Runs C s (t.mapCpu f) :=
  ⟨h.ops.tail (.registers f t), fun hs => hf _ (h.registers hs)⟩

variable (h : Runs C s t)
include h

/-- An operation that leaves the registers alone. -/
theorem cycle {u : State} (hop : CpuOp t u) (hcpu : u.cpu = t.cpu) : Runs C s u :=
  ⟨h.ops.tail hop, fun hs => hcpu ▸ h.registers hs⟩

theorem read8 (a : Addr) : Runs C s (Machine.read8 a t).2 := h.cycle (.read a t) (read8_cpu a t)
theorem write8 (a : Addr) (v : Byte) : Runs C s (Machine.write8 a v t) := h.cycle (.write a v t) (write8_cpu a v t)
theorem idle : Runs C s (Machine.idle t) := h.cycle (.idle t) (idle_cpu t)
theorem idles (n : Nat) : Runs C s (Machine.idles n t) := iterate_keeps (P := Runs C s) (fun _ hu => hu.idle) n t h
theorem spend (k : Nat) : Runs C s (Machine.spend k t) := h.cycle (.time k t) (spend_cpu k t)
theorem request {i : Intr} (hnmi : i.nmi.hold = t.intr.nmi.hold) (hirq : i.irq.hold = t.intr.irq.hold) :
    Runs C s { t with intr := i } := h.cycle (.request t i hnmi hirq) rfl
theorem setVector (v : Word) : Runs C s (Machine.setVector v t) := h.request rfl rfl

/-! ### Operand addresses and values: the registers stay -/

theorem readVector (b : Byte) (o : Word) : Runs C s (Machine.readVector b o t).2 := (h.read8 _).read8 _
theorem readPointer16 (ea : EA) : Runs C s (Machine.readPointer16 ea t).2 := (h.read8 _).read8 _
theorem readPointer24 (ea : EA) : Runs C s (Machine.readPointer24 ea t).2 := by
  unfold Machine.readPointer24
  dsimp only
  exact (h.readPointer16 _).read8 _

theorem dCycle : Runs C s (Machine.dCycle t) := by
  unfold Machine.dCycle
  split
  · exact h
  · exact h.idle

theorem pCycle (acc : Access) (b i : Word) : Runs C s (Machine.pCycle acc b i t) := by
  unfold Machine.pCycle
  split
  · exact h
  · exact h.idle

theorem effAddr (acc : Access) (m : Mode) : Runs C s (Machine.effAddr acc m t).2 := by
  cases m with
  | imm _ | abs _ | long _ | longx _ => exact h
  | dp _ => exact h.dCycle
  | dpx _ | dpy _ => exact h.dCycle.idle
  | dpind _ =>
    dsimp only [Machine.effAddr]
    exact h.dCycle.readPointer16 _
  | dpxind _ =>
    dsimp only [Machine.effAddr]
    exact h.dCycle.idle.readPointer16 _
  | dpindy _ =>
    dsimp only [Machine.effAddr]
    exact (h.dCycle.readPointer16 _).pCycle _ _ _
  | dpindl _ | dpindly _ =>
    dsimp only [Machine.effAddr]
    exact h.dCycle.readPointer24 _
  | absx _ | absy _ => exact h.pCycle _ _ _
  | sr _ => exact h.idle
  | srindy _ =>
    dsimp only [Machine.effAddr]
    exact (h.idle.readPointer16 _).idle

theorem readEA (w : Width) (ea : EA) : Runs C s (Machine.readEA w ea t).2 := by
  cases w with
  | w8 => exact h.read8 _
  | w16 => exact (h.read8 _).read8 _

theorem writeEA (w : Width) (ea : EA) (v : Word) : Runs C s (Machine.writeEA w ea v t) := by
  cases w with
  | w8 => exact h.write8 _ _
  | w16 => exact (h.write8 _ _).write8 _ _

theorem writeEARmw (w : Width) (ea : EA) (v : Word) : Runs C s (Machine.writeEARmw w ea v t) := by
  cases w with
  | w8 => exact h.write8 _ _
  | w16 => exact (h.write8 _ _).write8 _ _

theorem eaRead (w : Width) (m : Mode) : Runs C s (Machine.eaRead w m t).2 := by
  unfold Machine.eaRead
  split
  · exact h
  · exact (h.effAddr _ _).readEA _ _

end

/-! ### Fetching and the stack -/

section
variable {s t : State} (h : Runs Cpu.ModeOk s t)
include h

theorem fetch8 : Runs Cpu.ModeOk s (Machine.fetch8 t).2 := by
  unfold Machine.fetch8
  dsimp only
  exact (h.read8 _).mapCpu

theorem fetchBytes (n : Nat) : Runs Cpu.ModeOk s (Machine.fetchBytes n t).2 := by
  induction n generalizing t with
  | zero => exact h
  | succ n ih =>
    unfold Machine.fetchBytes
    exact ih h.fetch8

theorem fetchInstr : Runs Cpu.ModeOk s (Machine.fetchInstr t).2 := by
  unfold Machine.fetchInstr
  dsimp only
  exact h.fetch8.fetchBytes _

theorem push8 (v : Byte) : Runs Cpu.ModeOk s (Machine.push8 v t) := by
  unfold Machine.push8
  dsimp only
  exact (h.write8 _ _).mapCpu fun _ hc => hc.setS _

theorem push16 (v : Word) : Runs Cpu.ModeOk s (Machine.push16 v t) := (h.push8 _).push8 _

theorem pull8 : Runs Cpu.ModeOk s (Machine.pull8 t).2 := by
  unfold Machine.pull8
  dsimp only
  exact (h.mapCpu fun _ hc => hc.setS _).read8 _

theorem pull16 : Runs Cpu.ModeOk s (Machine.pull16 t).2 := by
  unfold Machine.pull16
  dsimp only
  exact h.pull8.pull8

end

/-! R34 excepts some instructions: they use the full S, keep the widths meanwhile, and `forceS` ends them. -/

section
variable {s t : State} (h : Runs Cpu.WidthOk s t)
include h

theorem push8Full (v : Byte) : Runs Cpu.WidthOk s (Machine.push8Full v t) := by
  unfold Machine.push8Full
  dsimp only
  exact (h.write8 _ _).mapCpu

theorem push16Full (v : Word) : Runs Cpu.WidthOk s (Machine.push16Full v t) := (h.push8Full _).push8Full _

theorem pull8Full : Runs Cpu.WidthOk s (Machine.pull8Full t).2 := by
  unfold Machine.pull8Full
  dsimp only
  exact (h.mapCpu).read8 _

theorem pull16Full : Runs Cpu.WidthOk s (Machine.pull16Full t).2 := by
  unfold Machine.pull16Full
  dsimp only
  exact h.pull8Full.pull8Full

/-- What has kept the widths keeps the whole mode once SH has been forced. -/
theorem forceS : Runs Cpu.ModeOk s (Machine.forceS t) :=
  ⟨h.ops.tail (.registers _ t), fun hs => (h.registers hs.1).setS _⟩

end

end Runs

/-! ### The shapes of instruction with an operand or none -/

theorem readOperand_runs {op : Width → Word → Cpu → Cpu} (hop : OperandKeepsMode op) (w : Width) (m : Mode)
    (s : State) : Runs Cpu.ModeOk s (readOperand w m op s) := by
  unfold readOperand
  dsimp only
  exact ((Runs.refl s).eaRead _ _).mapCpu (hop _ _)

theorem storeOperand_runs (w : Width) (m : Mode) (v : Word) (s : State) : Runs Cpu.ModeOk s (storeOperand w m v s) := by
  unfold storeOperand
  dsimp only
  exact ((Runs.refl s).effAddr _ _).writeEA _ _ _

theorem modifyOperand_runs {op : Width → Word → Word → Status → Rmw} (hop : RmwKeepsWidths op) (m : Mode) (s : State) :
    Runs Cpu.ModeOk s (modifyOperand m op s) where
  ops := by
    have hcycles : Runs (fun _ => True) s (modifyOperand m op s) := by
      unfold modifyOperand
      exact (((((Runs.refl s).effAddr _ _).readEA _ _).idle).writeEARmw _ _ _).mapCpu fun _ hc => hc
    exact hcycles.ops
  registers h := by
    rw [modifyOperand_cpu]
    exact h.withStatus (hop _ _ _ _).1 (hop _ _ _ _).2

theorem implied_runs {f : Cpu → Cpu} (hf : KeepsMode f) (n : Nat) (s : State) : Runs Cpu.ModeOk s (implied n f s) :=
  ((Runs.refl s).idles n).mapCpu hf

theorem modifyAccumulator_runs {op : Width → Word → Word → Status → Rmw} (hop : RmwKeepsWidths op) (s : State) :
    Runs Cpu.ModeOk s (modifyAccumulator op s) := by
  unfold modifyAccumulator
  dsimp only
  exact implied_runs (fun _ hc => (hc.setA _ _).withStatus (hop _ _ _ _).1 (hop _ _ _ _).2) 1 s

/-! ### Stack instructions and block moves -/

theorem pushFull_runs {s t : State} (h : Runs Cpu.WidthOk s t) (v : Word) : Runs Cpu.ModeOk s (pushFull v t) :=
  (h.push16Full v).forceS

theorem pushReg_runs (w : Width) (v : Word) (s : State) : Runs Cpu.ModeOk s (pushReg w v s) := by
  cases w with
  | w8 => exact (Runs.refl s).idle.push8 _
  | w16 => exact (Runs.refl s).idle.push16 _

theorem pullReg_runs (w : Width) (s : State) : Runs Cpu.ModeOk s (pullReg w s).2 := by
  cases w with
  | w8 => exact ((Runs.refl s).idles 2).pull8
  | w16 => exact ((Runs.refl s).idles 2).pull16

theorem pullInto_runs {op : Width → Word → Cpu → Cpu} (hop : OperandKeepsMode op) (w : Width) (s : State) :
    Runs Cpu.ModeOk s (pullInto w op s) := by
  unfold pullInto
  dsimp only
  exact (pullReg_runs w s).mapCpu (hop _ _)

theorem pullStatus_runs (s : State) : Runs Cpu.ModeOk s (pullStatus s) := by
  unfold pullStatus
  dsimp only
  exact (((Runs.refl s).idles 2).pull8).mapCpu fun _ hc => hc.writeP _

theorem pullBank_runs (s : State) : Runs Cpu.ModeOk s (pullBank s) := by
  unfold pullBank
  dsimp only
  exact ((Runs.refl s).idles 2).pull8.mapCpu

theorem pullDirect_runs (s : State) : Runs Cpu.ModeOk s (pullDirect s) := by
  unfold pullDirect
  dsimp only
  exact ((Runs.refl s).idles 2).pull16Full.mapCpu.forceS

theorem pushIndirect_runs (o : Byte) (s : State) : Runs Cpu.ModeOk s (pushIndirect o s) := by
  unfold pushIndirect
  dsimp only
  exact pushFull_runs ((Runs.refl s).dCycle.readPointer16 _) _

theorem blockMove_runs (dst src : Byte) (step : Word) (s : State) : Runs Cpu.ModeOk s (blockMove dst src step s) := by
  unfold blockMove
  dsimp only
  exact (((((Runs.refl s).mapCpu).read8 _).write8 _ _).idles 2).mapCpu fun _ hc => hc.moved step

/-! ### Control transfers -/

theorem branchTo_runs (t : Word) (s : State) : Runs Cpu.ModeOk s (branchTo t s) := by
  unfold branchTo
  dsimp only
  split
  · exact (Runs.refl s).idle.idle.mapCpu
  · exact (Runs.refl s).idle.mapCpu

theorem branchIf_runs (taken : Bool) (r : Byte) (s : State) : Runs Cpu.ModeOk s (branchIf taken r s) := by
  cases taken with
  | false => exact .refl s
  | true => exact branchTo_runs _ s

theorem branchLong_runs (r : Word) (s : State) : Runs Cpu.ModeOk s (branchLong r s) := by
  unfold branchLong
  exact (Runs.refl s).idle.mapCpu

theorem jumpIndirect_runs (o : Word) (s : State) : Runs Cpu.ModeOk s (jumpIndirect o s) := by
  unfold jumpIndirect
  dsimp only
  exact ((Runs.refl s).readVector _ _).mapCpu

theorem jumpIndexed_runs (o : Word) (s : State) : Runs Cpu.ModeOk s (jumpIndexed o s) := by
  unfold jumpIndexed
  dsimp only
  exact ((Runs.refl s).idle.readVector _ _).mapCpu

theorem jumpLongIndirect_runs (o : Word) (s : State) : Runs Cpu.ModeOk s (jumpLongIndirect o s) := by
  unfold jumpLongIndirect
  dsimp only
  exact (((Runs.refl s).readVector _ _).read8 _).mapCpu

theorem callAbsolute_runs (o : Word) (s : State) : Runs Cpu.ModeOk s (callAbsolute o s) := by
  unfold callAbsolute
  dsimp only
  exact ((Runs.refl s).idle.push16 _).mapCpu

theorem callIndexed_runs (o : Word) (s : State) : Runs Cpu.ModeOk s (callIndexed o s) := by
  unfold callIndexed
  dsimp only
  exact ((((Runs.refl s).push16Full _).forceS).fetch8.idle.readVector _ _).mapCpu

theorem callLong_runs (o : Addr) (s : State) : Runs Cpu.ModeOk s (callLong o s) := by
  unfold callLong fetch8
  dsimp only
  exact ((((((Runs.refl s).push8Full _).idle.read8 _).mapCpu).push16Full _).forceS).mapCpu

theorem returnShort_runs (s : State) : Runs Cpu.ModeOk s (returnShort s) := by
  unfold returnShort
  dsimp only
  exact (((Runs.refl s).idles 2).pull16.idle).mapCpu

theorem returnLong_runs (s : State) : Runs Cpu.ModeOk s (returnLong s) := by
  unfold returnLong
  dsimp only
  exact ((((Runs.refl s).idles 2).pull16Full.pull8Full).mapCpu).forceS

theorem returnFromInterrupt_runs (s : State) : Runs Cpu.ModeOk s (returnFromInterrupt s) := by
  have hstatus := (((Runs.refl s).idles 2).pull8).mapCpu (f := fun c => c.writeP (Status.ofByte (pull8 (idles 2 s)).1))
    fun _ hc => hc.writeP _
  unfold returnFromInterrupt
  dsimp only
  split
  · exact hstatus.pull16.mapCpu
  · exact ((hstatus.pull16.mapCpu).pull8).mapCpu

theorem pushFrame_runs (pCopy : Byte) (s : State) : Runs Cpu.ModeOk s (pushFrame pCopy s) := by
  unfold pushFrame
  dsimp only
  split
  · exact ((Runs.refl s).push16 _).push8 _
  · exact (((Runs.refl s).push8 _).push16 _).push8 _

theorem enterHandler_runs (pCopy : Byte) (vector : Word) (s : State) :
    Runs Cpu.ModeOk s (enterHandler pCopy vector s) := by
  have hentered := (pushFrame_runs pCopy s).mapCpu (f := Cpu.enter)
  unfold enterHandler
  dsimp only
  exact ((hentered.setVector _).readVector _ _).mapCpu

theorem takeInterrupt_runs (k : IntKind) {s t : State} (h : Runs Cpu.ModeOk s t) :
    Runs Cpu.ModeOk s (takeInterrupt k t) := by
  unfold takeInterrupt
  dsimp only
  exact (h.idles 2).trans (enterHandler_runs _ _ _)

end Sys2Proof.Machine
end

section
/-! PROOFS. Every instruction and every step of the CPU is a chain of CPU operations that keeps the registers' mode
(60_exceptions.md R560). -/

namespace Sys2Proof.Machine

/-- Every instruction runs as operations of the CPU and keeps the registers' mode: one case per shape of instruction. -/
theorem exec_runs (i : Instr) (s : State) : ∃ t, exec i s = .next t ∧ Runs Cpu.ModeOk s t := by
  cases i with
  | oraDpxind | oraSr | oraDp | oraDpindl | oraImm | oraAbs | oraLong | oraDpindy | oraDpind | oraSrindy | oraDpx |
    oraDpindly | oraAbsy | oraAbsx | oraLongx | andDpxind | andSr | bitDp | andDp | andDpindl | andImm | bitAbs |
    andAbs | andLong | andDpindy | andDpind | andSrindy | bitDpx | andDpx | andDpindly | andAbsy | bitAbsx | andAbsx |
    andLongx | eorDpxind | eorSr | eorDp | eorDpindl | eorImm | eorAbs | eorLong | eorDpindy | eorDpind | eorSrindy |
    eorDpx | eorDpindly | eorAbsy | eorAbsx | eorLongx | adcDpxind | adcSr | adcDp | adcDpindl | adcImm | adcAbs |
    adcLong | adcDpindy | adcDpind | adcSrindy | adcDpx | adcDpindly | adcAbsy | adcAbsx | adcLongx | bitImm |
    ldaDpxind | ldaSr | ldaDp | ldaDpindl | ldaImm | ldaAbs | ldaLong | ldaDpindy | ldaDpind | ldaSrindy | ldaDpx |
    ldaDpindly | ldaAbsy | ldaAbsx | ldaLongx | cpyImm | cmpDpxind | cmpSr | cpyDp | cmpDp | cmpDpindl | cmpImm |
    cpyAbs | cmpAbs | cmpLong | cmpDpindy | cmpDpind | cmpSrindy | cmpDpx | cmpDpindly | cmpAbsy | cmpAbsx | cmpLongx
    | cpxImm | sbcDpxind | sbcSr | cpxDp | sbcDp | sbcDpindl | sbcImm | cpxAbs | sbcAbs | sbcLong | sbcDpindy |
    sbcDpind | sbcSrindy | sbcDpx | sbcDpindly | sbcAbsy | sbcAbsx | sbcLongx =>
    refine ⟨_, rfl, readOperand_runs ?_ _ _ s⟩
    exact fun _ _ _ hc => hc.withStatus rfl rfl
  | ldxImm | ldxDp | ldxAbs | ldxDpy | ldxAbsy =>
    refine ⟨_, rfl, readOperand_runs ?_ _ _ s⟩
    exact fun _ _ _ hc => (hc.setX _).withStatus rfl rfl
  | ldyImm | ldyDp | ldyAbs | ldyDpx | ldyAbsx =>
    refine ⟨_, rfl, readOperand_runs ?_ _ _ s⟩
    exact fun _ _ _ hc => (hc.setY _).withStatus rfl rfl
  | stzDp | stzDpx | staDpxind | staSr | styDp | staDp | stxDp | staDpindl | styAbs | staAbs | stxAbs | staLong |
    staDpindy | staDpind | staSrindy | styDpx | staDpx | stxDpy | staDpindly | staAbsy | stzAbs | staAbsx | stzAbsx |
    staLongx => exact ⟨_, rfl, storeOperand_runs _ _ _ s⟩
  | tsbDp | aslDp | tsbAbs | aslAbs | trbDp | aslDpx | trbAbs | aslAbsx | rolDp | rolAbs | rolDpx | rolAbsx | lsrDp |
    lsrAbs | lsrDpx | lsrAbsx | rorDp | rorAbs | rorDpx | rorAbsx | decDp | decAbs | decDpx | decAbsx | incDp | incAbs
    | incDpx | incAbsx =>
    refine ⟨_, rfl, modifyOperand_runs ?_ _ s⟩
    exact fun _ _ _ _ => ⟨rfl, rfl⟩
  | aslAcc | incAcc | rolAcc | decAcc | lsrAcc | rorAcc =>
    refine ⟨_, rfl, modifyAccumulator_runs ?_ s⟩
    exact fun _ _ _ _ => ⟨rfl, rfl⟩
  | clc | sec | tsc | cli | tcd | sei | tdc | txa | tya | clv | cld | xba | sed =>
    refine ⟨_, rfl, implied_runs ?_ _ s⟩
    exact fun _ hc => hc.withStatus rfl rfl
  | tax | tsx | tyx | dex | inx =>
    refine ⟨_, rfl, implied_runs ?_ _ s⟩
    exact fun _ hc => (hc.setX _).withStatus rfl rfl
  | dey | txy | tay | iny =>
    refine ⟨_, rfl, implied_runs ?_ _ s⟩
    exact fun _ hc => (hc.setY _).withStatus rfl rfl
  | tcs | txs =>
    refine ⟨_, rfl, implied_runs ?_ _ s⟩
    exact fun _ hc => hc.setS _
  | rep | sep =>
    refine ⟨_, rfl, implied_runs ?_ _ s⟩
    exact fun _ hc => hc.writeP _
  | wai | stp =>
    refine ⟨_, rfl, implied_runs ?_ _ s⟩
    exact fun _ hc => hc
  | xce =>
    refine ⟨_, rfl, implied_runs ?_ _ s⟩
    exact fun _ hc => opXce_modeOk hc
  | nop => exact ⟨_, rfl, (Runs.refl s).idle⟩
  | wdm => exact ⟨_, rfl, .refl s⟩
  | pha | phy | phx => exact ⟨_, rfl, pushReg_runs _ _ s⟩
  | php | phk | phb => exact ⟨_, rfl, (Runs.refl s).idle.push8 _⟩
  | phd | per => exact ⟨_, rfl, pushFull_runs (Runs.refl s).idle _⟩
  | pea => exact ⟨_, rfl, pushFull_runs (.refl s) _⟩
  | pei => exact ⟨_, rfl, pushIndirect_runs _ s⟩
  | pla =>
    refine ⟨_, rfl, pullInto_runs ?_ _ s⟩
    exact fun _ _ _ hc => hc.withStatus rfl rfl
  | plx =>
    refine ⟨_, rfl, pullInto_runs ?_ _ s⟩
    exact fun _ _ _ hc => (hc.setX _).withStatus rfl rfl
  | ply =>
    refine ⟨_, rfl, pullInto_runs ?_ _ s⟩
    exact fun _ _ _ hc => (hc.setY _).withStatus rfl rfl
  | plp => exact ⟨_, rfl, pullStatus_runs s⟩
  | plb => exact ⟨_, rfl, pullBank_runs s⟩
  | pld => exact ⟨_, rfl, pullDirect_runs s⟩
  | mvp | mvn => exact ⟨_, rfl, blockMove_runs _ _ _ s⟩
  | bpl | bmi | bvc | bvs | bra | bcc | bcs | bne | beq => exact ⟨_, rfl, branchIf_runs _ _ s⟩
  | brl => exact ⟨_, rfl, branchLong_runs _ s⟩
  | jmpAbs | jmlLong => exact ⟨_, rfl, (Runs.refl s).mapCpu⟩
  | jmpAbsind => exact ⟨_, rfl, jumpIndirect_runs _ s⟩
  | jmpAbsxind => exact ⟨_, rfl, jumpIndexed_runs _ s⟩
  | jmlAbsindl => exact ⟨_, rfl, jumpLongIndirect_runs _ s⟩
  | jsrAbs => exact ⟨_, rfl, callAbsolute_runs _ s⟩
  | jsrAbsxind => exact ⟨_, rfl, callIndexed_runs _ s⟩
  | jsl => exact ⟨_, rfl, callLong_runs _ s⟩
  | rts => exact ⟨_, rfl, returnShort_runs s⟩
  | rtl => exact ⟨_, rfl, returnLong_runs s⟩
  | rti => exact ⟨_, rfl, returnFromInterrupt_runs s⟩
  | brk | cop => exact ⟨_, rfl, enterHandler_runs _ _ s⟩

/-! ### One step of the CPU -/

theorem resetSequence_runs (s : State) : Runs Cpu.ModeOk s (resetSequence s) := by
  have htaken : Runs Cpu.ModeOk s { s with intr := { s.intr with resetPending := false } } :=
    (Runs.refl s).request rfl rfl
  have hrunning := htaken.mapCpu (f := fun c => { c with run := .run })
  have hreset := (hrunning.spend s.params.resetClocks).mapCpu (f := Cpu.resetRegisters)
    fun c _ => c.resetRegisters_modeOk
  exact ((hreset.setVector 0xFFFC).readVector 0x00 0xFFFC).mapCpu (f := fun c => c.setPc _)

theorem waiStep_runs (s : State) : Runs Cpu.ModeOk s (waiStep s) := by
  unfold waiStep
  split
  · exact (Runs.refl s).mapCpu
  · exact (Runs.refl s).idle

/-- R560: what a boundary does with a due interrupt. -/
theorem boundary_runs (s : State) : Runs Cpu.ModeOk s (boundary s).1 := by
  have hseen : Runs Cpu.ModeOk s { s with intr := { s.intr with interruptPending := false } } :=
    (Runs.refl s).request rfl rfl
  unfold boundary
  split
  · dsimp only
    split
    next k _ =>
      refine takeInterrupt_runs k (hseen.request ?_ ?_)
      · cases k <;> rfl
      · cases k <;> rfl
    next => exact hseen
  · exact .refl s

theorem cpuStep_runs {s t : State} (h : cpuStep s = .next t) : Runs Cpu.ModeOk s t := by
  unfold cpuStep at h
  split at h
  · cases h
    exact resetSequence_runs s
  · split at h
    · cases h
      exact (Runs.refl s).idle
    · cases h
      exact waiStep_runs s
    · dsimp only at h
      split at h
      · obtain ⟨u, hu, hrun⟩ := exec_runs (fetchInstr (boundary s).1).1 (fetchInstr (boundary s).1).2
        rw [hu] at h
        cases h
        exact (boundary_runs s).fetchInstr.trans hrun
      · cases h
        exact boundary_runs s

/-- What the block's own step is: a step of the controller alone, or a chain of CPU operations that keeps the registers'
mode. -/
theorem machineStep_cases {s t : State} (h : machineStep s = .next t) : t = dmaClock s ∨ Runs Cpu.ModeOk s t := by
  unfold machineStep at h
  split at h
  · cases h
    exact .inl rfl
  · exact .inr (cpuStep_runs h)

end Sys2Proof.Machine
end

section
/-! PROOFS. An invariant of every step: the host's actions keep it, and so does the block's own step
(60_exceptions.md R560, R624). -/

namespace Sys2Proof.Machine

/-- What a list of host actions keeps, given what each of its actions keeps. -/
theorem hostActions_keeps {P : State → Prop} {l : List HostAction}
    (haction : ∀ a ∈ l, ∀ s t, hostAction a s = .next t → P s → P t) {s t : State} (h : hostActions l s = .next t)
    (hs : P s) : P t := by
  induction l generalizing s with
  | nil =>
    cases h
    exact hs
  | cons a l ih =>
    cases ha : hostAction a s with
    | next u =>
      rw [hostActions_cons_next ha] at h
      exact ih (fun b hb => haction b (List.mem_cons_of_mem a hb)) h (haction a List.mem_cons_self s u ha hs)
    | fault f => simp [hostActions, ha] at h
    | refused r => simp [hostActions, ha] at h

/-- All a step can do: nothing or the next list of host actions, and then the block's own step. -/
theorem step_cases {s t : State} (h : step s = .next t) :
    ∃ u, machineStep u = .next t ∧
      (u = s ∨ ∃ l rest, s.hostIn = l :: rest ∧ hostActions l { s with hostIn := rest } = .next u) := by
  unfold step at h
  cases hin : takeHostInput s with
  | next u =>
    simp only [hin] at h
    refine ⟨u, h, ?_⟩
    unfold takeHostInput at hin
    split at hin
    · cases hin
      exact .inl rfl
    next l rest heq => exact .inr ⟨l, rest, heq, hin⟩
  | fault f => simp [hin] at h
  | refused r => simp [hin] at h

/-- An invariant that does not see the host's input is one of every step. -/
theorem step_keeps {P : State → Prop} (hin : ∀ s l, P s → P { s with hostIn := l })
    (haction : ∀ a s t, hostAction a s = .next t → P s → P t) (hmachine : ∀ s t, machineStep s = .next t → P s → P t)
    {s t : State} (h : step s = .next t) (hs : P s) : P t := by
  obtain ⟨u, hu, rfl | ⟨l, rest, -, hl⟩⟩ := step_cases h
  · exact hmachine u t hu hs
  · exact hmachine u t hu (hostActions_keeps (fun a _ => haction a) hl (hin s rest hs))

/-- What loading a cartridge makes of the state. -/
theorem loadCart_next {c : Cart} {s t : State} (h : loadCart c s = .next t) :
    t = { s with
      bus := s.bus.install c.devices (some c)
      sched := { s.sched with coprocs := c.coprocs }
      intr := s.intr.undriven } := by
  unfold loadCart at h
  split at h
  · cases h
  · split at h
    · cases h
    · cases h
      rfl

theorem setProtection_keeps {P : State → Prop} (hset : ∀ k on s, P s → P (setWriteProtect k on s))
    (l : List (Nat × Bool)) (s : State) (hs : P s) : P (setProtection l s) :=
  foldl_keeps (fun s p hs => hset p.1 p.2 s hs) l s hs

/-! ### The registers' mode -/

theorem setProtection_cpu (l : List (Nat × Bool)) (s : State) : (setProtection l s).cpu = s.cpu :=
  setProtection_keeps (P := fun t => t.cpu = s.cpu) (fun _ _ _ h => h) l s rfl

/-- R620, R621: power puts the registers into emulation mode; no other action of the host changes their mode. -/
theorem hostAction_modeOk {a : HostAction} {s t : State} (h : hostAction a s = .next t) (hs : s.cpu.ModeOk) :
    t.cpu.ModeOk := by
  cases a with
  | power l =>
    cases h
    exact Cpu.resetRegisters_modeOk Cpu.power
  | reset l =>
    cases h
    simpa only [reset, Cpu.ModeOk, Cpu.WidthOk, setProtection_cpu] using hs
  | loadCart c =>
    obtain rfl := loadCart_next h
    exact hs
  | _ =>
    cases h
    exact hs

theorem machineStep_modeOk {s t : State} (h : machineStep s = .next t) (hs : s.cpu.ModeOk) : t.cpu.ModeOk := by
  obtain rfl | hrun := machineStep_cases h
  · rw [dmaClock_cpu]
    exact hs
  · exact hrun.registers hs

/-- Settles O14: the mode is one of the registers alone; every instruction and interrupt entry is a chain of register
changes that together keep it (`machineStep_cases`), and the controller and the host do not touch the registers but at
power. -/
theorem stepKeepsModeInv : Obligations.StepKeepsModeInv := by
  unfold Obligations.StepKeepsModeInv
  intro s t hs h
  rw [modeInv_iff] at hs ⊢
  exact step_keeps (P := fun u => u.cpu.ModeOk) (fun _ _ hu => hu) (fun _ _ _ => hostAction_modeOk)
    (fun _ _ => machineStep_modeOk) h hs

end Sys2Proof.Machine
end

section
/-! PROOFS. Every step keeps every memory content in canonical form and inside its device (10_state.md R65, R66;
20_memory.md R110, R111). -/

namespace Sys2Proof.Machine

/-- An invariant that the events of a cycle keep, and that sees neither the registers nor an interrupt request, is
kept by every operation of the CPU. -/
theorem Stable.cpuOp {P : State → Prop} (h : Stable P) (hregisters : ∀ s f, P s → P (s.mapCpu f))
    (hrequest : ∀ (s : State) (i : Intr), i.nmi.hold = s.intr.nmi.hold → i.irq.hold = s.intr.irq.hold → P s →
      P { s with intr := i }) {s t : State} (hop : CpuOp s t) (hs : P s) : P t := by
  cases hop with
  | read a => exact h.read8 a s hs
  | write a v => exact h.write8 a v s hs
  | idle => exact h.idle s hs
  | time k => exact h.spend k s hs
  | registers f => exact hregisters s f hs
  | request _ i hnmi hirq => exact hrequest s i hnmi hirq hs

/-! ### The events of a cycle -/

/-- What changes neither the parameters nor the host's input keeps the invariant as far as it keeps the bus's
contents. -/
theorem MemoryInv.of_static {s t : State} (hs : MemoryInv s) (hstatic : Static s t) (hbus : t.bus.memoryOk = true) :
    MemoryInv t := by
  obtain ⟨-, hparams, hin⟩ := hstatic
  unfold MemoryInv
  rw [hparams, hin]
  exact ⟨hbus, hs.2⟩

theorem memoryInv_stable : Stable MemoryInv where
  clockBare s h := h.of_static (clockBare_timeless s).static (memoryOk_stable.clockBare s h.1)
  tick _ h := h
  poll _ h := h
  dma _ _ h := h
  read a s h := h.of_static (busRead_static a s) (memoryOk_stable.read a s h.1)
  write a v s h := h.of_static (busWrite_static a v s) (memoryOk_stable.write a v s h.1)
  mdr _ _ h := h

theorem machineStep_memoryInv {s t : State} (h : machineStep s = .next t) (hs : MemoryInv s) : MemoryInv t := by
  obtain rfl | hrun := machineStep_cases h
  · exact memoryInv_stable.dmaClock s hs
  · exact hrun.ops.keeps (fun _ _ hop => memoryInv_stable.cpuOp (fun _ _ hu => hu) (fun _ _ _ _ hu => hu) hop) hs

/-! ### The host's actions -/

theorem Bus.memoryOk_iff (b : Bus) :
    b.memoryOk = true ↔ Memory.ok Config.wramSize b.wram = true ∧ b.devices.all MemDevice.ok = true := by
  unfold Bus.memoryOk
  exact Bool.and_eq_true_iff

theorem install_wram (b : Bus) (l : List MemDevice) (c : Option Cart) : (b.install l c).wram = b.wram := by
  cases c <;> rfl

/-- The devices after a mapping change are the given ones, or none. -/
theorem install_devices_ok {l : List MemDevice} (h : l.all MemDevice.ok = true) (b : Bus) (c : Option Cart) :
    (b.install l c).devices.all MemDevice.ok = true := by
  cases c with
  | none => rfl
  | some c => exact h

theorem install_memoryOk {b : Bus} {l : List MemDevice} (hb : b.memoryOk = true) (hl : l.all MemDevice.ok = true)
    (c : Option Cart) : (b.install l c).memoryOk = true := by
  rw [Bus.memoryOk_iff] at hb ⊢
  rw [install_wram]
  exact ⟨hb.1, install_devices_ok hl b c⟩

/-- A write-protect flag is no part of a content. -/
theorem setWriteProtect_memoryInv (k : Nat) (on : Bool) (s : State) (h : MemoryInv s) :
    MemoryInv (setWriteProtect k on s) := by
  obtain ⟨hbus, hrest⟩ := h
  rw [Bus.memoryOk_iff] at hbus
  refine ⟨(Bus.memoryOk_iff _).2 ⟨hbus.1, modifyDevice_all hbus.2 fun d hd => ?_⟩, hrest⟩
  exact List.all_eq_true.1 hbus.2 d (List.mem_of_getElem? hd)

theorem setProtection_memoryInv (l : List (Nat × Bool)) {s : State} (h : MemoryInv s) : MemoryInv (setProtection l s) :=
  setProtection_keeps setWriteProtect_memoryInv l s h

theorem power_memoryInv {s : State} (h : MemoryInv s) : MemoryInv (power s) := by
  obtain ⟨hbus, hinit, hin⟩ := h
  rw [Bus.memoryOk_iff] at hbus
  exact ⟨(Bus.memoryOk_iff _).2 ⟨hinit, install_devices_ok hbus.2 _ _⟩, hinit, hin⟩

theorem reset_memoryInv {s : State} (h : MemoryInv s) : MemoryInv (reset s) := by
  obtain ⟨hbus, hrest⟩ := h
  have hdevices := ((Bus.memoryOk_iff _).1 hbus).2
  exact ⟨install_memoryOk hbus hdevices _, hrest⟩

theorem hostAction_memoryInv {a : HostAction} (ha : a.ok = true) {s t : State} (h : hostAction a s = .next t)
    (hs : MemoryInv s) : MemoryInv t := by
  cases a with
  | power l =>
    cases h
    exact power_memoryInv (setProtection_memoryInv l hs)
  | reset l =>
    cases h
    exact reset_memoryInv (setProtection_memoryInv l hs)
  | loadCart c =>
    obtain rfl := loadCart_next h
    exact ⟨install_memoryOk hs.1 ha _, hs.2⟩
  | unloadCart =>
    cases h
    exact ⟨install_memoryOk hs.1 rfl _, hs.2⟩
  | pad0 _ | pad1 _ | extIrq _ | lineClocks _ | video _ _ =>
    cases h
    exact hs

/-- Settles O15: a cycle writes memory only at a resolved index, which lies inside its device (`memoryOk_stable`), every
step of the block is made of cycles, and the host brings in only well-formed contents. -/
theorem stepKeepsMemoryInv : Obligations.StepKeepsMemoryInv := by
  unfold Obligations.StepKeepsMemoryInv
  intro s t hs h
  obtain ⟨u, hu, rfl | ⟨l, rest, hin, hl⟩⟩ := step_cases h
  · exact machineStep_memoryInv hu hs
  · obtain ⟨hbus, hinit, hall⟩ := hs
    rw [hin, List.all_cons, Bool.and_eq_true] at hall
    obtain ⟨hnow, hlater⟩ := hall
    have hstart : MemoryInv { s with hostIn := rest } := ⟨hbus, hinit, hlater⟩
    exact machineStep_memoryInv hu
      (hostActions_keeps (fun a ha _ _ => hostAction_memoryInv (List.all_eq_true.1 hnow a ha)) hl hstart)

end Sys2Proof.Machine
end

section
/-! PROOFS. The ranges of the units' counters (10_state.md R49, R52, R53; 46_cpu_io.md R490, R511, R515): the
multiply/divide unit, the interrupt holds and the joypads. -/

namespace Sys2Proof.Machine

/-! ### The multiply/divide unit (R53, R490) -/

/-- The countdowns are within their latencies, and not both run. -/
structure Alu.InRange (u : Alu) : Prop where
  mpy : u.mpyctr ≤ Config.mpyLatency
  div : u.divctr ≤ Config.divLatency
  one : u.mpyctr = 0 ∨ u.divctr = 0

theorem Alu.idle_of_not_busy {u : Alu} (h : ¬ u.busy = true) : u.mpyctr = 0 ∧ u.divctr = 0 := by
  simpa [Alu.busy] using h

theorem Alu.InRange.writeMpyB {u : Alu} (h : u.InRange) (v : Byte) : (u.writeMpyB v).InRange := by
  unfold Alu.writeMpyB
  split
  next => exact ⟨h.mpy, h.div, h.one⟩
  next hidle => exact ⟨le_refl _, h.div, .inr (Alu.idle_of_not_busy hidle).2⟩

theorem Alu.InRange.writeDivB {u : Alu} (h : u.InRange) (v : Byte) : (u.writeDivB v).InRange := by
  unfold Alu.writeDivB
  split
  next => exact ⟨h.mpy, h.div, h.one⟩
  next hidle => exact ⟨h.mpy, le_refl _, .inl (Alu.idle_of_not_busy hidle).1⟩

theorem Alu.tickMpy_mpyctr (u : Alu) : u.tickMpy.mpyctr = u.mpyctr - 1 := by
  unfold Alu.tickMpy
  split
  · omega
  · dsimp only
    split <;> rfl
theorem Alu.tickMpy_divctr (u : Alu) : u.tickMpy.divctr = u.divctr := by
  unfold Alu.tickMpy
  split
  · rfl
  · dsimp only
    split <;> rfl
theorem Alu.postQuotient_mpyctr (u : Alu) : u.postQuotient.mpyctr = u.mpyctr := by
  unfold Alu.postQuotient
  split <;> rfl
theorem Alu.postQuotient_divctr (u : Alu) : u.postQuotient.divctr = u.divctr := by
  unfold Alu.postQuotient
  split <;> rfl
theorem Alu.tickDiv_mpyctr (u : Alu) : u.tickDiv.mpyctr = u.mpyctr := by
  unfold Alu.tickDiv
  split
  · rfl
  · dsimp only
    split
    · rw [Alu.postQuotient_mpyctr]
    · rfl
theorem Alu.tickDiv_divctr (u : Alu) : u.tickDiv.divctr = u.divctr - 1 := by
  unfold Alu.tickDiv
  split
  · omega
  · dsimp only
    split
    · rw [Alu.postQuotient_divctr]
    · rfl

/-- R498: a tick counts both countdowns down. -/
theorem Alu.InRange.tick {u : Alu} (h : u.InRange) : u.tick.InRange := by
  obtain ⟨hmpy, hdiv, hone⟩ := h
  have hm : u.tick.mpyctr = u.mpyctr - 1 := by rw [Alu.tick, Alu.tickDiv_mpyctr, Alu.tickMpy_mpyctr]
  have hd : u.tick.divctr = u.divctr - 1 := by rw [Alu.tick, Alu.tickDiv_divctr, Alu.tickMpy_divctr]
  constructor <;> omega

/-! ### The interrupt holds (R49, R550) -/

/-- Both hold counters are within INT_HOLD. -/
structure Intr.InRange (intHold : Nat) (t : Intr) : Prop where
  nmi : t.nmi.hold ≤ intHold
  irq : t.irq.hold ≤ intHold

theorem IntSource.raiseNmi_hold (x : IntSource) : x.raiseNmi.hold = x.hold := by
  unfold IntSource.raiseNmi
  split <;> rfl
theorem IntSource.raiseIrq_hold (x : IntSource) : x.raiseIrq.hold = x.hold := by
  unfold IntSource.raiseIrq
  split <;> rfl
theorem IntSource.enableIrq_hold (x : IntSource) (virq hirq : Bool) : (x.enableIrq virq hirq).hold = x.hold := by
  simp only [IntSource.enableIrq, apply_ite IntSource.hold, ite_self]

theorem Intr.raster_hold (t : Intr) (h v : Nat) :
    (t.raster h v).nmi.hold = t.nmi.hold ∧ (t.raster h v).irq.hold = t.irq.hold := by
  unfold Intr.raster
  split
  · exact ⟨rfl, IntSource.raiseIrq_hold _⟩
  · exact ⟨rfl, rfl⟩

theorem IntSource.pollHold_hold_le (x : IntSource) : x.pollHold.hold ≤ x.hold := by
  unfold IntSource.pollHold
  split
  · exact le_refl _
  · exact Nat.sub_le _ _

/-- R550: a poll counts the hold down, or starts it at INT_HOLD. -/
theorem IntSource.poll_hold_le {x : IntSource} {intHold : Nat} (h : x.hold ≤ intHold) :
    (x.poll intHold).hold ≤ intHold := by
  have hle : x.pollHold.hold ≤ intHold := (x.pollHold_hold_le).trans h
  unfold IntSource.poll IntSource.pollEdge
  split
  · split
    · exact hle
    · exact le_refl _
  · exact hle

theorem Intr.takeExtIrq_hold (attached : Bool) (t : Intr) :
    (t.takeExtIrq attached).nmi.hold = t.nmi.hold ∧ (t.takeExtIrq attached).irq.hold = t.irq.hold := by
  unfold Intr.takeExtIrq
  split <;> exact ⟨rfl, rfl⟩

theorem Intr.rearm_hold (levelMode : Bool) (t : Intr) :
    (t.rearm levelMode).nmi.hold = t.nmi.hold ∧ (t.rearm levelMode).irq.hold = t.irq.hold := by
  unfold Intr.rearm
  dsimp only
  split <;> exact ⟨rfl, rfl⟩

theorem Intr.InRange.poll {p : Params} {t : Intr} (h : t.InRange p.intHold) (attached maskI : Bool) :
    (t.poll p attached maskI).InRange p.intHold := by
  obtain ⟨hn1, hi1⟩ := Intr.takeExtIrq_hold attached t
  obtain ⟨hn2, hi2⟩ := Intr.rearm_hold p.irqLevelMode (t.takeExtIrq attached)
  unfold Intr.poll
  constructor
  · exact IntSource.poll_hold_le (by rw [hn2, hn1]; exact h.nmi)
  · exact IntSource.poll_hold_le (by rw [hi2, hi1]; exact h.irq)

theorem Intr.InRange.of_hold {n : Nat} {t u : Intr} (h : t.InRange n)
    (hu : u.nmi.hold = t.nmi.hold ∧ u.irq.hold = t.irq.hold) : u.InRange n :=
  ⟨hu.1 ▸ h.nmi, hu.2 ▸ h.irq⟩

/-! ### The joypads (R52, R511, R515) -/

/-- The serial indexes are at most 16, JOY3 and JOY4 are 0, and the auto-poll window is within its length. -/
structure Joypad.InRange (j : Joypad) : Prop where
  ser0 : j.ser0.index ≤ 16
  ser1 : j.ser1.index ≤ 16
  joy3 : j.joy3 = 0
  joy4 : j.joy4 = 0
  busy : j.autojoyBusy ≤ Config.autojoyBusyClocks

theorem SerialPort.bit_index_le {p : SerialPort} (h : p.index ≤ 16) (strobe : Bool) (pad : Word) :
    (p.bit strobe pad).2.index ≤ 16 := by
  cases strobe with
  | true => exact Nat.zero_le 16
  | false =>
    simp only [SerialPort.bit, Bool.false_eq_true, if_false]
    split
    next hlt => exact hlt
    next => exact h

theorem Joypad.InRange.writeStrobe {j : Joypad} (h : j.InRange) (v : Byte) : (j.writeStrobe v).InRange := by
  unfold Joypad.writeStrobe
  split
  · exact ⟨Nat.zero_le 16, Nat.zero_le 16, h.joy3, h.joy4, h.busy⟩
  · exact ⟨h.ser0, h.ser1, h.joy3, h.joy4, h.busy⟩

theorem Joypad.InRange.autoPoll {j : Joypad} (h : j.InRange) : j.autoPoll.InRange := by
  unfold Joypad.autoPoll
  split
  · exact ⟨le_refl 16, le_refl 16, rfl, rfl, le_refl _⟩
  · exact h

/-! ### All of them, through a cycle -/

/-- The counters of the three units are in their ranges. -/
structure CountersOk (s : State) : Prop where
  alu : s.alu.InRange
  intr : s.intr.InRange s.params.intHold
  joy : s.joy.InRange

theorem advance_countersOk {s : State} (h : CountersOk s) : CountersOk (advance s) :=
  ⟨h.alu, h.intr, h.joy.ser0, h.joy.ser1, h.joy.joy3, h.joy.joy4, (Nat.sub_le _ _).trans h.joy.busy⟩

theorem eventRefresh_countersOk {s : State} (h : CountersOk s) : CountersOk (eventRefresh s) := by
  unfold eventRefresh
  split
  · exact ⟨h.alu, h.intr, h.joy⟩
  · exact h
theorem eventHdmaInit_countersOk {s : State} (h : CountersOk s) : CountersOk (eventHdmaInit s) := by
  unfold eventHdmaInit
  split
  · exact ⟨h.alu, h.intr, h.joy⟩
  · exact h
theorem eventHdmaRun_countersOk {s : State} (h : CountersOk s) : CountersOk (eventHdmaRun s) := by
  unfold eventHdmaRun
  split
  · exact ⟨h.alu, h.intr, h.joy⟩
  · exact h
theorem eventNmi_countersOk {s : State} (h : CountersOk s) : CountersOk (eventNmi s) := by
  unfold eventNmi
  split
  · exact ⟨h.alu, h.intr.of_hold ⟨IntSource.raiseNmi_hold _, rfl⟩, h.joy⟩
  · exact h
theorem eventAutojoy_countersOk {s : State} (h : CountersOk s) : CountersOk (eventAutojoy s) := by
  unfold eventAutojoy
  split
  · exact ⟨h.alu, h.intr, h.joy.autoPoll⟩
  · exact h
theorem eventFrameStart_countersOk {s : State} (h : CountersOk s) : CountersOk (eventFrameStart s) := by
  unfold eventFrameStart
  split
  · exact ⟨h.alu, h.intr.of_hold ⟨rfl, rfl⟩, h.joy⟩
  · exact h

theorem lineEvents_countersOk {s : State} (h : CountersOk s) : CountersOk (lineEvents s) :=
  eventFrameStart_countersOk (eventAutojoy_countersOk (eventNmi_countersOk (eventHdmaRun_countersOk
    (eventHdmaInit_countersOk (eventRefresh_countersOk h)))))

theorem rasterCompare_countersOk {s : State} (h : CountersOk s) : CountersOk (rasterCompare s) :=
  ⟨h.alu, h.intr.of_hold (Intr.raster_hold _ _ _), h.joy⟩

theorem clockBare_countersOk {s : State} (h : CountersOk s) : CountersOk (clockBare s) :=
  rasterCompare_countersOk (lineEvents_countersOk (advance_countersOk h))

theorem synchronize_countersOk (g : AgentId) {s : State} (h : CountersOk s) : CountersOk (synchronize g s) := by
  cases g <;> exact ⟨h.alu, h.intr, h.joy⟩

/-- Of the register reads only those of the joypads and of TIMEUP move a counter. -/
theorem readCpuReg_countersOk (o : Nat) {s : State} (h : CountersOk s) : CountersOk (readCpuReg o s).2 := by
  unfold readCpuReg
  split
  · exact h
  · split
    case h_2 =>
      exact ⟨h.alu, h.intr, SerialPort.bit_index_le h.joy.ser0 _ _, h.joy.ser1, h.joy.joy3, h.joy.joy4, h.joy.busy⟩
    case h_3 =>
      exact ⟨h.alu, h.intr, h.joy.ser0, SerialPort.bit_index_le h.joy.ser1 _ _, h.joy.joy3, h.joy.joy4, h.joy.busy⟩
    case h_5 => exact ⟨h.alu, ⟨h.intr.nmi, Nat.zero_le _⟩, h.joy⟩
    all_goals exact ⟨h.alu, ⟨h.intr.nmi, h.intr.irq⟩, h.joy⟩

theorem writeNmitimen_countersOk (v : Byte) {s : State} (h : CountersOk s) : CountersOk (writeNmitimen v s) :=
  ⟨h.alu, h.intr.of_hold ⟨rfl, IntSource.enableIrq_hold _ _ _⟩,
    ⟨h.joy.ser0, h.joy.ser1, h.joy.joy3, h.joy.joy4, h.joy.busy⟩⟩

theorem writeWrio_countersOk (v : Byte) {s : State} (h : CountersOk s) : CountersOk (writeWrio v s) := by
  unfold writeWrio
  dsimp only
  split <;> exact ⟨h.alu, h.intr, h.joy⟩

/-- Of the register writes only those of JOYWR, NMITIMEN and the multiply/divide operands concern a counter. -/
theorem writeCpuReg_countersOk (o : Nat) (v : Byte) {s : State} (h : CountersOk s) :
    CountersOk (writeCpuReg o v s) := by
  unfold writeCpuReg
  split
  · exact ⟨h.alu, h.intr, h.joy⟩
  · split
    case h_5 => exact ⟨h.alu, h.intr, h.joy.writeStrobe v⟩
    case h_6 => exact writeNmitimen_countersOk v h
    case h_7 => exact writeWrio_countersOk v h
    case h_9 => exact ⟨h.alu.writeMpyB v, h.intr, h.joy⟩
    case h_12 => exact ⟨h.alu.writeDivB v, h.intr, h.joy⟩
    all_goals exact ⟨⟨h.alu.mpy, h.alu.div, h.alu.one⟩, ⟨h.intr.nmi, h.intr.irq⟩, h.joy⟩

theorem busRead_countersOk (a : Addr) {s : State} (h : CountersOk s) : CountersOk (busRead a s).2 := by
  have hmmio : CountersOk (mmioRead a s).2 := by
    unfold mmioRead
    split
    · exact h
    · exact readCpuReg_countersOk _ h
    next g _ _ =>
      have hsync := synchronize_countersOk g h
      exact ⟨hsync.alu, hsync.intr, hsync.joy⟩
  unfold busRead
  split
  · exact ⟨hmmio.alu, hmmio.intr, hmmio.joy⟩
  · exact ⟨h.alu, h.intr, h.joy⟩

theorem busWrite_countersOk (a : Addr) (v : Byte) {s : State} (h : CountersOk s) : CountersOk (busWrite a v s) := by
  have hmmio : CountersOk (mmioWrite a v s) := by
    unfold mmioWrite
    split
    · exact h
    · exact writeCpuReg_countersOk _ v h
    next g _ _ =>
      have hsync := synchronize_countersOk g h
      exact ⟨hsync.alu, hsync.intr, hsync.joy⟩
  unfold busWrite
  split
  · exact ⟨hmmio.alu, hmmio.intr, hmmio.joy⟩
  · exact ⟨h.alu, h.intr, h.joy⟩

/-- No event of a cycle takes a counter out of its range. -/
theorem countersOk_stable : Stable CountersOk where
  clockBare _ h := clockBare_countersOk h
  tick _ h := ⟨h.alu.tick, h.intr, h.joy⟩
  poll _ h := ⟨h.alu, h.intr.poll _ _, h.joy⟩
  dma _ _ h := ⟨h.alu, h.intr, h.joy⟩
  read a _ h := busRead_countersOk a h
  write a v _ h := busWrite_countersOk a v h
  mdr _ _ h := ⟨h.alu, h.intr, h.joy⟩

theorem CpuOp.countersOk {s t : State} (hop : CpuOp s t) (h : CountersOk s) : CountersOk t :=
  countersOk_stable.cpuOp (fun _ _ hu => ⟨hu.alu, hu.intr, hu.joy⟩)
    (fun _ _ hnmi hirq hu => ⟨hu.alu, hu.intr.of_hold ⟨hnmi, hirq⟩, hu.joy⟩) hop h

end Sys2Proof.Machine
end

section
/-! PROOFS. The progress of the DMA controller (10_state.md R51; 45_dma_hdma.md R442, R454): who owns the bus, whether a
`dma_run()` is in progress, and the clocks a byte still owes. -/

namespace Sys2Proof.Machine

/-- The controller's progress, written out: `active`, `running` and `clocks`. -/
structure Progress (active running : Bool) (clocks : Nat) (s : State) : Prop where
  active : s.dma.active = active
  running : s.dma.running = running
  clocks : s.dma.clocks = clocks

/-- Its range: a byte owes at most its 8 clocks, only inside a `dma_run()`, and that only while the controller owns the
bus. -/
structure Dma.InRange (d : Dma) : Prop where
  clocks : d.clocks ≤ Config.dmaByteClocks
  running : d.clocks ≠ 0 → d.running = true
  active : d.running = true → d.active = true

namespace Progress

theorem self (s : State) : Progress s.dma.active s.dma.running s.dma.clocks s := ⟨rfl, rfl, rfl⟩

theorem inRange_of_running {k : Nat} {s : State} (h : Progress true true k s) (hk : k ≤ Config.dmaByteClocks) :
    s.dma.InRange :=
  ⟨h.clocks ▸ hk, fun _ => h.running, fun _ => h.active⟩

theorem inRange_of_stopped {a : Bool} {s : State} (h : Progress a false 0 s) : s.dma.InRange :=
  ⟨h.clocks ▸ Nat.zero_le _, fun hk => absurd h.clocks hk, fun hr => absurd (h.running.symm.trans hr) (by decide)⟩

section
variable {a r : Bool} {k : Nat} {s : State} (h : Progress a r k s)
include h

/-! ### Time and accesses leave it -/

theorem of_dma {t : State} (hd : t.dma = s.dma) : Progress a r k t := by
  obtain ⟨h1, h2, h3⟩ := h
  exact ⟨hd ▸ h1, hd ▸ h2, hd ▸ h3⟩

theorem eventHdmaInit : Progress a r k (Machine.eventHdmaInit s) := by
  unfold Machine.eventHdmaInit
  split
  · dsimp only
    split <;> exact ⟨h.active, h.running, h.clocks⟩
  · exact h

theorem eventHdmaRun : Progress a r k (Machine.eventHdmaRun s) := by
  unfold Machine.eventHdmaRun
  split
  · dsimp only
    split <;> exact ⟨h.active, h.running, h.clocks⟩
  · exact h

theorem lineEvents : Progress a r k (Machine.lineEvents s) := by
  have hrefresh : Progress a r k (eventRefresh s) := h.of_dma (by unfold eventRefresh; split <;> rfl)
  have hnmi : ∀ u, (eventNmi u).dma = u.dma := fun u => by unfold eventNmi; split <;> rfl
  have hautojoy : ∀ u, (eventAutojoy u).dma = u.dma := fun u => by unfold eventAutojoy; split <;> rfl
  have hframe : ∀ u, (eventFrameStart u).dma = u.dma := fun u => by unfold eventFrameStart; split <;> rfl
  exact hrefresh.eventHdmaInit.eventHdmaRun.of_dma ((hframe _).trans ((hautojoy _).trans (hnmi _)))

theorem clockBare : Progress a r k (Machine.clockBare s) := by
  unfold Machine.clockBare
  exact ((h.of_dma (advance_dma s)).lineEvents).of_dma (rasterCompare_dma _)

theorem clock : Progress a r k (Machine.clock s) := by
  unfold Machine.clock
  split
  · exact iterate_keeps (P := Progress a r k) (fun _ hu => hu.clockBare) _ _ h.clockBare
  · exact h.clockBare

theorem spend (j : Nat) : Progress a r k (Machine.spend j s) :=
  iterate_keeps (P := Progress a r k) (fun _ hu => hu.clock) j s h

theorem setMdr (v : Byte) : Progress a r k (Machine.setMdr v s) := h.of_dma rfl

theorem dmaUnitEvent : Progress a r k (Machine.dmaUnitEvent s) := h.of_dma rfl

theorem updCh (n : Fin 8) (f : Channel → Channel) : Progress a r k (s.updCh n f) := ⟨h.active, h.running, h.clocks⟩

theorem busRead (b : Addr) : Progress a r k (Machine.busRead b s).2 := h.of_dma (busRead_dma b s)

theorem writeCpuReg (o : Nat) (v : Byte) : Progress a r k (Machine.writeCpuReg o v s) := by
  have hwrio : (writeWrio v s).dma = s.dma := by
    unfold writeWrio
    dsimp only
    split <;> rfl
  unfold Machine.writeCpuReg
  split
  · exact h.updCh _ _
  · split
    case h_7 => exact h.of_dma hwrio
    all_goals exact ⟨h.active, h.running, h.clocks⟩

theorem busWrite (b : Addr) (v : Byte) : Progress a r k (Machine.busWrite b v s) := by
  have hmmio : Progress a r k (mmioWrite b v s) := by
    unfold mmioWrite
    split
    · exact h
    · exact h.writeCpuReg _ v
    next g _ _ => exact h.of_dma (synchronize_dma g s)
  unfold Machine.busWrite
  split
  · exact hmmio.setMdr v
  · exact h.of_dma rfl

theorem dmaRead (b : Addr) : Progress a r k (Machine.dmaRead b s).2 := by
  unfold Machine.dmaRead
  split
  · exact h.busRead b
  · exact h

theorem dmaWrite (b : Addr) (v : Byte) : Progress a r k (Machine.dmaWrite b v s) := by
  unfold Machine.dmaWrite
  split
  · exact h.busWrite b v
  · exact h

/-! ### A byte owes its clocks and pays them all -/

theorem owe (j : Nat) : Progress a r j (Machine.owe j s) := ⟨h.active, h.running, rfl⟩

theorem pay (j : Nat) : Progress a r (k - j) (Machine.pay j s) := by
  have hspent := h.spend j
  exact ⟨hspent.active, hspent.running, congrArg (· - j) hspent.clocks⟩

theorem payUnit (j : Nat) : Progress a r (k - j) (Machine.payUnit j s) := (h.pay j).dmaUnitEvent

theorem transfer (toA : Bool) (b : Byte) (c : Addr) : Progress a r 0 (Machine.transfer toA b c s) := by
  have howed := h.owe Config.dmaByteClocks
  unfold Machine.transfer
  dsimp only
  split
  · have hpaid : Progress a r 0 (Machine.payUnit 8 (Machine.owe Config.dmaByteClocks s)) := howed.payUnit 8
    unfold conflictByte
    dsimp only
    split
    · exact (hpaid.dmaWrite _ _).setMdr _
    · exact hpaid
  · split
    · unfold byteToA
      exact (((howed.pay 4).busRead _).payUnit 4).dmaWrite _ _
    · unfold byteToB
      exact (((howed.pay 4).dmaRead _).payUnit 4).busWrite _ _

theorem readHalf (toA : Bool) (b : Byte) (c : Addr) : Progress a r k (Machine.readHalf toA b c s) := by
  unfold Machine.readHalf
  split
  · exact h
  · split
    · exact h.busRead _
    · exact h.dmaRead _

theorem writeHalf (toA : Bool) (b : Byte) (c : Addr) : Progress a r k (Machine.writeHalf toA b c s) := by
  unfold Machine.writeHalf
  split
  · split
    · exact (h.dmaWrite _ _).setMdr _
    · exact h
  · split
    · exact h.dmaWrite _ _
    · exact h.busWrite _ _

theorem nextTableByte (n : Fin 8) : Progress a r 0 (Machine.nextTableByte n s).2 :=
  (((h.updCh n fun c => { c with a2a := c.a2a + 1 }).owe Config.dmaByteClocks).payUnit 8).dmaRead _

theorem spendOverhead (j : Nat) : Progress a r k (Machine.spendOverhead j s) :=
  (iterate_keeps (P := Progress a r k) (fun _ hu => (hu.spend _).dmaUnitEvent) _ s h).spend _

end

/-! ### Between bytes nothing is owed -/

section
variable {a r : Bool} {s : State} (h : Progress a r 0 s)
include h

theorem hdmaReload (n : Fin 8) : Progress a r 0 (Machine.hdmaReload n s) := by
  have hheader := h.nextTableByte n
  unfold Machine.hdmaReload
  split
  · exact h
  · dsimp only
    split
    · unfold reloadPointer
      exact (((hheader.updCh _ _).nextTableByte n).nextTableByte n).updCh _ _
    · exact hheader.updCh _ _

theorem hdmaInitChannel (n : Fin 8) : Progress a r 0 (Machine.hdmaInitChannel s n) := by
  unfold Machine.hdmaInitChannel
  split
  · exact (h.updCh _ _).hdmaReload n
  · exact h

theorem hdmaUnitByte (n : Fin 8) (i : Nat) : Progress a r 0 (Machine.hdmaUnitByte n s i) := by
  have haddress : Progress a r 0 (if (s.ch n).indirect then hdmaInd n s else hdmaTable n s).2 := by
    split
    · exact h.updCh n fun c => { c with das := c.das + 1 }
    · exact h.updCh n fun c => { c with a2a := c.a2a + 1 }
  exact haddress.transfer _ _ _

theorem hdmaTransferChannel (n : Fin 8) : Progress a r 0 (Machine.hdmaTransferChannel s n) := by
  unfold Machine.hdmaTransferChannel
  split
  · dsimp only
    split
    · exact foldl_keeps (P := Progress a r 0) (fun _ i hu => hu.hdmaUnitByte n i) _ _ (h.updCh _ _)
    · exact h.updCh _ _
  · exact h

theorem hdmaCountChannel (n : Fin 8) : Progress a r 0 (Machine.hdmaCountChannel s n) := by
  unfold Machine.hdmaCountChannel
  split
  · exact (h.updCh _ _).hdmaReload n
  · exact h

theorem hdmaInit : Progress a r 0 (Machine.hdmaInit s) :=
  foldl_keeps (P := Progress a r 0) (fun _ n hu => hu.hdmaInitChannel n) _ _ (h.spendOverhead _)

theorem hdmaRun : Progress a r 0 (Machine.hdmaRun s) :=
  foldl_keeps (P := Progress a r 0) (fun _ n hu => hu.hdmaCountChannel n) _ _
    (foldl_keeps (P := Progress a r 0) (fun _ n hu => hu.hdmaTransferChannel n) _ _ (h.spendOverhead _))

theorem serviceHdma : Progress a r 0 (Machine.serviceHdma s) := by
  have htaken : Progress a r 0 { s with dma := { s.dma with hdmaPending := false } } := ⟨h.active, h.running, h.clocks⟩
  unfold Machine.serviceHdma
  split
  · dsimp only
    split
    · exact htaken.hdmaInit
    · exact htaken.hdmaRun
  · exact h

theorem dmaByte (n : Fin 8) : Progress a r 0 (Machine.dmaByte n s) := by
  have hstart : Progress a r 0 { s.updCh n (fun c => { c with a1t := c.nextA1t }) with dma := dmaStart n s } :=
    ⟨h.active, h.running, h.clocks⟩
  rw [dmaByte_eq]
  exact (hstart.transfer _ _ _).updCh _ _

theorem dmaBytes (n : Fin 8) (j : Nat) : Progress a r 0 (Machine.dmaBytes n j s) := by
  induction j generalizing s with
  | zero => exact h
  | succ j ih =>
    have hbyte := (h.dmaByte n).serviceHdma
    unfold Machine.dmaBytes
    dsimp only
    split
    · split
      · exact hbyte
      · exact ih hbyte
    · exact h

theorem dmaChannelRest (n : Fin 8) : Progress a r 0 (Machine.dmaChannelRest n s) := (h.dmaBytes n _).updCh _ _

theorem dmaOverhead (j : Nat) : Progress a r 0 (Machine.dmaOverhead j s) := (h.spendOverhead j).serviceHdma

theorem dmaStartChannel (n : Fin 8) : Progress a r 0 (Machine.dmaStartChannel n s) := by
  have hpaid := h.dmaOverhead s.params.dmaChannelOverhead
  exact ⟨hpaid.active, hpaid.running, hpaid.clocks⟩

theorem dmaRunChannel (n : Fin 8) : Progress a r 0 (Machine.dmaRunChannel s n) := by
  unfold Machine.dmaRunChannel
  split
  · exact (h.dmaStartChannel n).dmaChannelRest n
  · exact h

theorem dmaRunChannels (l : List (Fin 8)) : Progress a r 0 (l.foldl Machine.dmaRunChannel s) :=
  foldl_keeps (P := Progress a r 0) (fun _ n hu => hu.dmaRunChannel n) l s h

theorem dmaBegin : Progress a true 0 (Machine.dmaBegin s) := by
  have hrunning : Progress a true 0 { s with dma := { s.dma with pending := false, running := true } } :=
    ⟨h.active, rfl, h.clocks⟩
  exact hrunning.dmaOverhead _

theorem dmaEnd : Progress a false 0 (Machine.dmaEnd s) := ⟨h.active, rfl, h.clocks⟩

theorem dmaRun : Progress a false 0 (Machine.dmaRun s) := (h.dmaBegin.dmaRunChannels _).dmaEnd

theorem serviceDma (hr : r = false) : Progress a false 0 (Machine.serviceDma s) := by
  subst hr
  unfold Machine.serviceDma
  split
  · exact h.dmaRun
  · exact h

/-- The next channel is started, or the run is over and the bus is given back (R442, R448). -/
theorem dmaSelect (l : List (Fin 8)) :
    Progress a r 0 (Machine.dmaSelect l s) ∨ Progress false false 0 (Machine.dmaSelect l s) := by
  unfold Machine.dmaSelect
  split
  next n _ => exact .inl (h.dmaStartChannel n)
  next => exact .inr ⟨rfl, rfl, h.clocks⟩

theorem endByte (n : Fin 8) : Progress a r 0 (Machine.endByte n s) := by
  have hserved := ((h.dmaUnitEvent.writeHalf (s.ch n).toA (bInProgress n s) (aInProgress n s)).updCh n
    fun c => { c with das := c.das - 1 }).serviceHdma
  unfold Machine.endByte
  dsimp only
  split
  · exact hserved.updCh _ _
  · exact hserved

end

/-! ### A byte by its master clocks (R454) -/

/-- A byte begins with 8 clocks owed. -/
theorem startByte {a r : Bool} {k : Nat} {s : State} (h : Progress a r k s) (n : Fin 8) :
    Progress a r (7 + 1) (Machine.startByte n s) := ⟨h.active, h.running, rfl⟩

/-- A clock of the byte in progress pays one of the clocks owed. -/
theorem byteClock {a r : Bool} {k : Nat} {s : State} (h : Progress a r (k + 1) s) (n : Fin 8) :
    Progress a r k (Machine.byteClock n s) := by
  have hpaid : Progress a r k (Machine.pay 1 s) := h.pay 1
  unfold Machine.byteClock
  dsimp only
  split
  next => exact hpaid.readHalf _ _ _
  next =>
    split
    next hzero =>
      obtain rfl : k = 0 := hpaid.clocks.symm.trans hzero
      exact hpaid.endByte n
    next => exact hpaid

/-- The clocks owed end the byte. -/
theorem byteClocks {a r : Bool} {k : Nat} {s : State} (h : Progress a r k s) (n : Fin 8) :
    Progress a r 0 (iterate (Machine.byteClock n) k s) := by
  induction k generalizing s with
  | zero => exact h
  | succ k ih => exact ih (h.byteClock n)

theorem dmaResume {a r : Bool} {k : Nat} {s : State} (h : Progress a r k s) :
    Progress a false 0 (Machine.dmaResume s) := by
  have hclocks := h.clocks
  unfold Machine.dmaResume
  dsimp only
  rw [hclocks]
  exact (((h.byteClocks _).dmaChannelRest _).dmaRunChannels _).dmaEnd

end Progress

/-! ### The cycle boundary (R442) -/

/-- Between bytes outside a `dma_run()` nothing is owed. -/
theorem Dma.InRange.clocks_zero {d : Dma} (h : d.InRange) (hr : d.running = false) : d.clocks = 0 := by
  by_contra hne
  exact absurd (hr.symm.trans (h.running hne)) (by decide)

/-- R441: an activation ends with the bus given back, no run in progress and nothing owed. -/
theorem runActivation_progress {s : State} (h : s.dma.InRange) : Progress false false 0 (runActivation s) := by
  have hself := Progress.self s
  unfold runActivation
  dsimp only
  split
  next =>
    have hdone := hself.dmaResume
    exact ⟨rfl, hdone.running, hdone.clocks⟩
  next hr =>
    have hr : s.dma.running = false := by simpa using hr
    rw [h.clocks_zero hr] at hself
    have hdone := hself.serviceHdma.serviceDma hr
    exact ⟨rfl, hdone.running, hdone.clocks⟩

/-- When a CPU cycle begins the controller is out of the way. -/
theorem startCycle_progress {s : State} (h : s.dma.InRange) : Progress false false 0 (startCycle s) := by
  unfold startCycle
  split
  next => exact runActivation_progress h
  next ha =>
    have hr : s.dma.running = false := by
      by_contra hne
      exact ha (h.active (by simpa using hne))
    exact ⟨by simpa using ha, hr, h.clocks_zero hr⟩

/-- At the end of a CPU cycle the controller may take the bus, and no more. -/
theorem cycleEdge_inRange {s : State} (h : Progress false false 0 s) : (cycleEdge s).dma.InRange := by
  unfold cycleEdge
  split
  · exact Progress.inRange_of_stopped (a := true) ⟨rfl, h.running, h.clocks⟩
  · exact h.inRange_of_stopped

theorem endCycle_inRange {s : State} (h : Progress false false 0 s) (wasBusy : Bool) :
    (endCycle wasBusy s).dma.InRange :=
  cycleEdge_inRange (h.of_dma (by cases wasBusy <;> rfl))

theorem CpuOp.dmaInRange {s t : State} (hop : CpuOp s t) (h : s.dma.InRange) : t.dma.InRange := by
  have hstart := startCycle_progress h
  cases hop with
  | read a => exact endCycle_inRange ((hstart.busRead a).spend _) _
  | write a v => exact endCycle_inRange ((hstart.busWrite a v).spend _) _
  | idle => exact endCycle_inRange (hstart.spend _) _
  | time k =>
    obtain ⟨hactive, hrunning, hclocks⟩ := (Progress.self s).spend k
    exact ⟨hclocks ▸ h.clocks, fun hk => hrunning ▸ h.running (hclocks ▸ hk),
      fun hr => hactive ▸ h.active (hrunning ▸ hr)⟩
  | registers f => exact h
  | request _ i _ _ => exact h

theorem dmaSelect_inRange {s : State} (h : Progress true true 0 s) (l : List (Fin 8)) :
    (dmaSelect l s).dma.InRange := by
  obtain hstarted | hover := h.dmaSelect l
  · exact hstarted.inRange_of_running (Nat.zero_le _)
  · exact hover.inRange_of_stopped

/-- R454: each step of the controller alone leaves its progress in range. -/
theorem dmaClock_inRange {s : State} (h : s.dma.InRange) : (dmaClock s).dma.InRange := by
  unfold dmaClock
  dsimp only
  split
  next => exact h
  next hactive =>
    have hactive : s.dma.active = true := by simpa using hactive
    split
    next howed =>
      obtain ⟨k, hk⟩ := Nat.exists_eq_succ_of_ne_zero howed
      have hbyte : Progress true true (k + 1) s := ⟨hactive, h.running howed, hk⟩
      exact (hbyte.byteClock _).inRange_of_running ((Nat.le_succ k).trans (hk ▸ h.clocks))
    next howed =>
      have hclocks : s.dma.clocks = 0 := by simpa using howed
      split
      next hrunning =>
        have hrun : Progress true true 0 s := ⟨hactive, hrunning, hclocks⟩
        split
        · exact ((hrun.startByte _).byteClock _).inRange_of_running (by decide)
        · exact dmaSelect_inRange hrun _
      next hrunning =>
        have hserved : Progress true false 0 (serviceHdma s) :=
          Progress.serviceHdma ⟨hactive, by simpa using hrunning, hclocks⟩
        split
        · exact dmaSelect_inRange hserved.dmaBegin _
        · exact Progress.inRange_of_stopped (a := false) ⟨rfl, hserved.running, hserved.clocks⟩

end Sys2Proof.Machine
end

section
/-! PROOFS. Every step keeps the ranges of the units' counters; and the state after reset: its values (10_state.md
R30-R69) and the three invariants in it. -/

namespace Sys2Proof.Machine

/-! ### The units' ranges -/

/-- The invariant is the counters' ranges and the range of the controller's progress. -/
theorem unitInv_iff (s : State) : UnitInv s ↔ CountersOk s ∧ s.dma.InRange := by
  constructor
  · rintro ⟨hmpy, hdiv, hone, hnmi, hirq, hclocks, hrunning, hactive, hser0, hser1, hjoy3, hjoy4, hbusy⟩
    exact ⟨⟨⟨hmpy, hdiv, hone⟩, ⟨hnmi, hirq⟩, ⟨hser0, hser1, hjoy3, hjoy4, hbusy⟩⟩, ⟨hclocks, hrunning, hactive⟩⟩
  · rintro ⟨⟨⟨hmpy, hdiv, hone⟩, ⟨hnmi, hirq⟩, ⟨hser0, hser1, hjoy3, hjoy4, hbusy⟩⟩, ⟨hclocks, hrunning, hactive⟩⟩
    exact ⟨hmpy, hdiv, hone, hnmi, hirq, hclocks, hrunning, hactive, hser0, hser1, hjoy3, hjoy4, hbusy⟩

theorem Alu.init_inRange : Alu.init.InRange := ⟨Nat.zero_le _, Nat.zero_le _, .inl rfl⟩

theorem Intr.init_inRange (n : Nat) (vector : Word) (extIrq : Bool) (extIrqIn : List Bool) :
    (Intr.init vector extIrq extIrqIn).InRange n := ⟨Nat.zero_le _, Nat.zero_le _⟩

theorem Joypad.init_inRange (pad0 pad1 : Word) : (Joypad.init pad0 pad1).InRange :=
  ⟨Nat.zero_le _, Nat.zero_le _, rfl, rfl, Nat.zero_le _⟩

theorem Dma.power_inRange (cs : Vector Channel 8) : Dma.InRange { Dma.power with channels := cs } :=
  ⟨Nat.zero_le _, fun hk => absurd rfl hk, fun hr => absurd hr Bool.false_ne_true⟩

/-- R620, R621: power and reset put every unit at its start; no other action of the host moves a counter. -/
theorem hostAction_unitInv {a : HostAction} {s t : State} (h : hostAction a s = .next t) (hs : UnitInv s) :
    UnitInv t := by
  rw [unitInv_iff] at hs ⊢
  obtain ⟨hcounters, hdma⟩ := hs
  cases a with
  | power l | reset l =>
    cases h
    exact ⟨⟨Alu.init_inRange, Intr.init_inRange _ _ _ _, Joypad.init_inRange _ _⟩, Dma.power_inRange _⟩
  | pad0 _ | pad1 _ =>
    cases h
    obtain ⟨hser0, hser1, hjoy3, hjoy4, hbusy⟩ := hcounters.joy
    exact ⟨⟨hcounters.alu, hcounters.intr, ⟨hser0, hser1, hjoy3, hjoy4, hbusy⟩⟩, hdma⟩
  | loadCart c =>
    obtain rfl := loadCart_next h
    exact ⟨⟨hcounters.alu, hcounters.intr.of_hold ⟨rfl, rfl⟩, hcounters.joy⟩, hdma⟩
  | extIrq _ | lineClocks _ | video _ _ | unloadCart =>
    cases h
    exact ⟨⟨hcounters.alu, hcounters.intr.of_hold ⟨rfl, rfl⟩, hcounters.joy⟩, hdma⟩

theorem CpuOp.unitInv {s t : State} (hop : CpuOp s t) (hs : UnitInv s) : UnitInv t := by
  rw [unitInv_iff] at hs ⊢
  exact ⟨hop.countersOk hs.1, hop.dmaInRange hs.2⟩

theorem machineStep_unitInv {s t : State} (h : machineStep s = .next t) (hs : UnitInv s) : UnitInv t := by
  obtain rfl | hrun := machineStep_cases h
  · rw [unitInv_iff] at hs ⊢
    exact ⟨countersOk_stable.dmaClock s hs.1, dmaClock_inRange hs.2⟩
  · exact hrun.ops.keeps (fun _ _ => CpuOp.unitInv) hs

/-- Settles O16: no event of a cycle takes a counter out of its range (`countersOk_stable`); the controller pays every
byte it begins (`Progress`), and is stopped with nothing owed when a CPU cycle begins (`startCycle_progress`). -/
theorem stepKeepsUnitInv : Obligations.StepKeepsUnitInv := by
  unfold Obligations.StepKeepsUnitInv
  intro s t hs h
  exact step_keeps (P := UnitInv) (fun _ _ hu => hu) (fun _ _ _ => hostAction_unitInv) (fun _ _ => machineStep_unitInv)
    h hs

/-! ### The state after reset -/

theorem stateReset_modeInv : ModeInv State.reset := (modeInv_iff _).2 (Cpu.resetRegisters_modeOk Cpu.power)

theorem stateReset_unitInv : UnitInv State.reset :=
  (unitInv_iff _).2
    ⟨⟨Alu.init_inRange, Intr.init_inRange _ _ _ _, Joypad.init_inRange _ _⟩, Dma.power_inRange _⟩

/-- Settles O13: no memory content is listed at reset, the registers are in emulation mode, and every unit is at its
start. -/
theorem invariantsAtReset : Obligations.InvariantsAtReset :=
  ⟨stateReset_modeInv, ⟨rfl, rfl, rfl⟩, stateReset_unitInv⟩

/-- R60: every channel holds its power-on value. -/
theorem stateReset_ch (n : Fin 8) : State.reset.ch n = Channel.power := by
  simp [State.ch, State.reset, Dma.power]

/-- Settles O1: every field but the channels' by evaluation, the channels' by `stateReset_ch`. -/
theorem resetState : Obligations.ResetState := by
  unfold Obligations.ResetState
  refine ⟨by decide, by decide, by decide, ?dma, by decide, by decide, by decide, by decide⟩
  case dma =>
    refine ⟨rfl, rfl, rfl, rfl, rfl, rfl, fun n => ?_⟩
    rw [stateReset_ch]
    decide

end Sys2Proof.Machine
end

section
/-! PROOFS. The mirror fold and the loops of `map()` (20_memory.md R105-R109). -/

namespace Sys2Proof.Machine

/-! ### The mirror fold (R109) -/

/-- An address below the size ends the loop, whatever bits are left. -/
theorem mirrorLoop_of_lt {addr size : Nat} (h : addr < size) (k base : Nat) : mirrorLoop k addr size base = base + addr := by
  cases k with
  | zero => rfl
  | succ k => rw [mirrorLoop, if_pos h]

/-- A mask bit the address does not have changes nothing. -/
theorem mirrorLoop_succ_of_lt {k addr : Nat} (h : addr < 2 ^ k) (size base : Nat) :
    mirrorLoop (k + 1) addr size base = mirrorLoop k addr size base := by
  by_cases hlt : addr < size
  · rw [mirrorLoop_of_lt hlt, mirrorLoop_of_lt hlt]
  · have hbit : ¬ addr / 2 ^ k % 2 = 1 := by simp [Nat.div_eq_of_lt h]
    rw [mirrorLoop, if_neg hlt, if_neg hbit]

/-- The mask bits above the address's own change nothing. -/
theorem mirrorLoop_eq_of_lt {j k addr : Nat} (h : addr < 2 ^ j) (hjk : j ≤ k) (size base : Nat) :
    mirrorLoop k addr size base = mirrorLoop j addr size base := by
  induction k, hjk using Nat.le_induction with
  | base => rfl
  | succ k hjk ih =>
    rw [mirrorLoop_succ_of_lt (h.trans_le (Nat.pow_le_pow_right (by omega) hjk)), ih]

/-- A mask bit the address has is taken off the address; where it is below the size it moves the window up. -/
theorem mirrorLoop_succ_of_le {k addr size : Nat} (hlo : 2 ^ k ≤ addr) (hhi : addr < 2 ^ (k + 1)) (hsize : size ≤ addr)
    (base : Nat) :
    mirrorLoop (k + 1) addr size base =
      if 2 ^ k < size then mirrorLoop k (addr - 2 ^ k) (size - 2 ^ k) (base + 2 ^ k)
      else mirrorLoop k (addr - 2 ^ k) size base := by
  have hdiv : addr / 2 ^ k = 1 := Nat.div_eq_of_lt_le (by omega) (by omega)
  have hbit : addr / 2 ^ k % 2 = 1 := by rw [hdiv]
  rw [mirrorLoop, if_neg (by omega), if_pos hbit]

/-- The loop ends inside the window of `size` addresses at `base`. -/
theorem mirrorLoop_lt {k addr size : Nat} (haddr : addr < 2 ^ k) (hsize : 0 < size) (base : Nat) :
    mirrorLoop k addr size base < base + size := by
  induction k generalizing addr size base with
  | zero =>
    have : addr = 0 := by simpa using haddr
    rw [mirrorLoop_of_lt (by omega)]
    omega
  | succ k ih =>
    by_cases hlt : addr < size
    · rw [mirrorLoop_of_lt hlt]
      omega
    by_cases hbit : addr < 2 ^ k
    · rw [mirrorLoop_succ_of_lt hbit]
      exact ih hbit hsize base
    have hrest : addr - 2 ^ k < 2 ^ k := by omega
    rw [mirrorLoop_succ_of_le (by omega) haddr (by omega)]
    split
    · have := ih hrest (show 0 < size - 2 ^ k by omega) (base + 2 ^ k)
      omega
    · exact ih hrest hsize base

/-- For a size that is a power of two the loop takes off every bit from the size's own up. -/
theorem mirrorLoop_two_pow {k addr : Nat} (haddr : addr < 2 ^ k) (m base : Nat) :
    mirrorLoop k addr (2 ^ m) base = base + addr % 2 ^ m := by
  induction k generalizing addr base with
  | zero =>
    have : addr = 0 := by simpa using haddr
    simp [this, mirrorLoop]
  | succ k ih =>
    by_cases hlt : addr < 2 ^ m
    · rw [mirrorLoop_of_lt hlt, Nat.mod_eq_of_lt hlt]
    by_cases hbit : addr < 2 ^ k
    · rw [mirrorLoop_succ_of_lt hbit, ih hbit]
    have hmk : m ≤ k := by
      have : 2 ^ m < 2 ^ (k + 1) := by omega
      have := (Nat.pow_lt_pow_iff_right (by omega)).1 this
      omega
    have hpow : 2 ^ m ≤ 2 ^ k := Nat.pow_le_pow_right (by omega) hmk
    obtain ⟨r, rfl⟩ := Nat.exists_eq_add_of_le (show 2 ^ k ≤ addr by omega)
    obtain ⟨c, hc⟩ := Nat.pow_dvd_pow 2 hmk
    have hmod : (2 ^ k + r) % 2 ^ m = r % 2 ^ m := by rw [hc, Nat.mul_add_mod]
    rw [mirrorLoop_succ_of_le (by omega) haddr (by omega), if_neg (by omega), ih (by omega), hmod, Nat.add_sub_cancel_left]

theorem mirror_of_lt {a size : Nat} (ha : a < 2 ^ 24) (h : a < size) : mirror a size = a := by
  rw [mirror, if_neg (by omega), Nat.mod_eq_of_lt ha, mirrorLoop_of_lt h, Nat.zero_add]

theorem mirror_two_pow {a : Nat} (ha : a < 2 ^ 24) (k : Nat) : mirror a (2 ^ k) = a % 2 ^ k := by
  rw [mirror, if_neg (by positivity), Nat.mod_eq_of_lt ha, mirrorLoop_two_pow ha, Nat.zero_add]

theorem mirror_lt (a : Nat) {size : Nat} (h : 0 < size) : mirror a size < size := by
  rw [mirror, if_neg (by omega)]
  simpa using mirrorLoop_lt (Nat.mod_lt a (show 0 < 2 ^ 24 by omega)) h 0

theorem mirror_size_zero (a : Nat) : mirror a 0 = 0 := by rw [mirror, if_pos rfl]

/-- R109's example: bit 14 leaves the window of 0x2000 at 0x4000, and bit 13 folds the rest into it. -/
theorem mirror_0x6000 {a : Nat} (hlo : 0x6000 ≤ a) (hhi : a < 0x8000) : mirror a 0x6000 = a - 0x2000 := by
  have hbits : mirrorLoop 24 a 0x6000 0 = mirrorLoop 15 a 0x6000 0 :=
    mirrorLoop_eq_of_lt (by omega) (by omega) _ _
  rw [mirror, if_neg (by omega), Nat.mod_eq_of_lt (by omega), hbits,
    mirrorLoop_succ_of_le (k := 14) (by omega) (by omega) hlo, if_pos (by omega),
    mirrorLoop_succ_of_le (k := 13) (by omega) (by omega) (by omega), if_neg (by omega), mirrorLoop_of_lt (by omega)]
  omega

/-! ### The loops of `map()` (R107, R108) -/

section
open Sys2Proof.Claims

/-- A wrapped index can be stepped and wrapped again at any time. -/
theorem wrapped_wrapIndex_add (size i k : Nat) : wrapped size (wrapIndex size i + k) = wrapIndex size (i + k) := by
  unfold wrapped wrapIndex
  split
  · rfl
  · rw [Nat.mod_add_mod]

theorem wrapIndex_zero (size : Nat) : wrapIndex size 0 = 0 := by simp [wrapIndex]

theorem pageWalk_snd (size bank : Nat) (pages : List Nat) (i : Nat) :
    (pageWalk size bank pages (wrapIndex size i)).2 = wrapIndex size (i + pages.length * 256) := by
  induction pages generalizing i with
  | nil => simp [pageWalk]
  | cons p l ih =>
    rw [pageWalk, wrapped_wrapIndex_add, ih, List.length_cons]
    congr 1
    omega

/-- Page p of the n pages from p0 on is visited with an index 256 further for each page before it. -/
theorem mem_pageWalk {size bank p0 n i : Nat} {q : Nat × Nat × Nat}
    (h : q ∈ (pageWalk size bank (List.range' p0 n) (wrapIndex size i)).1) :
    q.1 = bank ∧ p0 ≤ q.2.1 ∧ q.2.2 = wrapIndex size (i + (q.2.1 - p0) * 256) := by
  induction n generalizing p0 i with
  | zero => cases h
  | succ n ih =>
    rw [List.range'_succ, pageWalk, wrapped_wrapIndex_add] at h
    obtain rfl | h := List.mem_cons.1 h
    · simp
    · obtain ⟨hbank, hpage, hindex⟩ := ih h
      refine ⟨hbank, by omega, hindex.trans (congrArg _ ?_)⟩
      omega

/-- R107: a bank's n pages move the index on by 256 each. -/
theorem mem_linearWalk {size p0 n b0 m i : Nat} {q : Nat × Nat × Nat}
    (h : q ∈ linearWalk size (List.range' p0 n) (List.range' b0 m) (wrapIndex size i)) :
    b0 ≤ q.1 ∧ q.2.2 = wrapIndex size (i + ((q.1 - b0) * n + (q.2.1 - p0)) * 256) := by
  induction m generalizing b0 i with
  | zero => cases h
  | succ m ih =>
    rw [List.range'_succ, linearWalk, pageWalk_snd, List.length_range'] at h
    obtain h | h := List.mem_append.1 h
    · obtain ⟨rfl, -, hindex⟩ := mem_pageWalk h
      simp [hindex]
    · obtain ⟨hbank, hindex⟩ := ih h
      refine ⟨by omega, hindex.trans (congrArg _ ?_)⟩
      obtain ⟨d, hd⟩ := Nat.exists_eq_add_of_le hbank
      rw [hd, show b0 + 1 + d - (b0 + 1) = d by omega, show b0 + 1 + d - b0 = d + 1 by omega]
      ring

/-- R108: a bank's n pages, with the steps before the first and after the last of them, move the index on by 65536. -/
theorem mem_shadowWalk {size p0 p1 n b0 m i : Nat} (hn : p0 + n = p1 + 1) (hp1 : p1 ≤ 255) {q : Nat × Nat × Nat}
    (h : q ∈ shadowWalk size p0 p1 (List.range' p0 n) (List.range' b0 m) (wrapIndex size i)) :
    b0 ≤ q.1 ∧ q.2.2 = wrapIndex size (i + ((q.1 - b0) * 65536 + q.2.1 * 256)) := by
  induction m generalizing b0 i with
  | zero => cases h
  | succ m ih =>
    rw [List.range'_succ, shadowWalk, wrapped_wrapIndex_add, pageWalk_snd, wrapped_wrapIndex_add, List.length_range'] at h
    obtain h | h := List.mem_append.1 h
    · obtain ⟨rfl, hpage, hindex⟩ := mem_pageWalk h
      refine ⟨le_rfl, hindex.trans (congrArg _ ?_)⟩
      omega
    · obtain ⟨hbank, hindex⟩ := ih h
      refine ⟨by omega, hindex.trans (congrArg _ ?_)⟩
      omega

theorem linearWalk_nil (size : Nat) (banks : List Nat) (i : Nat) : linearWalk size [] banks i = [] := by
  induction banks generalizing i with
  | nil => rfl
  | cons b l ih => simp [linearWalk, pageWalk, ih]

theorem shadowWalk_nil (size p0 p1 : Nat) (banks : List Nat) (i : Nat) : shadowWalk size p0 p1 [] banks i = [] := by
  induction banks generalizing i with
  | nil => rfl
  | cons b l ih => simp [shadowWalk, pageWalk, ih]

theorem span_eq_nil {a b : Nat} (h : b < a) : span a b = [] := by
  rw [span, show b + 1 - a = 0 by omega, List.range'_zero]

theorem pageOf_le (a : Nat) : pageOf a ≤ 255 := by
  unfold pageOf
  omega

/-- R107: the closed form is the loop's index. Without a page between the two ends the loop visits none. -/
theorem index_linear {r : MapRequest} (hmode : r.mode = .linear) {q : Nat × Nat × Nat}
    (h : q ∈ linearWalk r.size (span (pageOf r.addrLo) (pageOf r.addrHi)) (span r.bankLo r.bankHi) 0) :
    r.index q.1 q.2.1 = q.2.2 := by
  obtain hpages | hpages := Nat.lt_or_ge (pageOf r.addrHi) (pageOf r.addrLo)
  · rw [span_eq_nil hpages, linearWalk_nil] at h
    cases h
  · rw [← wrapIndex_zero r.size] at h
    obtain ⟨-, hindex⟩ := mem_linearWalk h
    rw [Nat.zero_add, Nat.sub_add_comm hpages] at hindex
    simp only [MapRequest.index, hmode, hindex]

/-- R108: the closed form is the loop's index. -/
theorem index_shadow {r : MapRequest} (hmode : r.mode = .shadow) {q : Nat × Nat × Nat}
    (h : q ∈ shadowWalk r.size (pageOf r.addrLo) (pageOf r.addrHi) (span (pageOf r.addrLo) (pageOf r.addrHi))
      (span r.bankLo r.bankHi) 0) :
    r.index q.1 q.2.1 = q.2.2 := by
  obtain hpages | hpages := Nat.lt_or_ge (pageOf r.addrHi) (pageOf r.addrLo)
  · rw [span_eq_nil hpages, shadowWalk_nil] at h
    cases h
  · rw [← wrapIndex_zero r.size] at h
    obtain ⟨-, hindex⟩ := mem_shadowWalk (by omega) (pageOf_le _) h
    rw [Nat.zero_add] at hindex
    simp only [MapRequest.index, hmode, hindex]

end

/-- Settles O44: the fold by induction on its mask bits, the two loops by induction on their banks and pages. -/
theorem mirrorAndMapLoops : Obligations.MirrorAndMapLoops := by
  unfold Obligations.MirrorAndMapLoops
  exact ⟨fun _ _ => mirror_of_lt, fun _ k ha => mirror_two_pow ha k, fun a _ => mirror_lt a, mirror_size_zero,
    fun _ => mirror_0x6000,
    fun _ _ hmode => index_linear hmode, fun _ _ hmode => index_shadow hmode⟩

end Sys2Proof.Machine
end

section
/-! PROOFS. What every bus address reaches under the fixed system map (20_memory.md R102, R106, R112, R113). -/

namespace Sys2Proof.Machine

theorem MapRequest.covers_iff (r : MapRequest) (a : Nat) :
    r.covers a = true ↔
      r.bankLo ≤ a / 65536 ∧ a / 65536 ≤ r.bankHi ∧ pageOf r.addrLo ≤ pageOf a ∧ pageOf a ≤ pageOf r.addrHi := by
  simp [MapRequest.covers, and_assoc]

theorem pageOf_eq (a : Nat) : pageOf a = a % 65536 / 256 := by
  unfold pageOf
  omega

/-- R106: a call in Direct mode hands on the address. -/
theorem target_direct {r : MapRequest} (h : r.mode = .direct) (devSize a : Nat) : r.target devSize a = a := by
  simp only [MapRequest.target, MapRequest.index, h, pageOf]
  omega

/-- R107: a call in Linear mode without an offset folds its running index into the device. -/
theorem target_linear {r : MapRequest} (hmode : r.mode = .linear) (hoffset : r.offset = 0) (devSize a : Nat) :
    r.target devSize a = mirror (r.index (a / 65536) (pageOf a)) devSize + a % 256 := by
  simp only [MapRequest.target, hmode, hoffset, Nat.zero_add]

/-- The call that maps the whole of work RAM. -/
def wholeWram : MapRequest :=
  { mode := .linear, bankLo := 0x7E, bankHi := 0x7F, addrLo := 0, addrHi := 0xFFFF, dev := .wram, offset := 0, size := 0 }

/-- A call that maps the first 8 KiB of work RAM into each bank of a range. -/
def lowWram (bankLo bankHi : Nat) : MapRequest :=
  { mode := .linear, bankLo := bankLo, bankHi := bankHi, addrLo := 0, addrHi := 0x1FFF, dev := .wram, offset := 0
    size := 0x2000 }

/-- A call that maps the dispatcher into each bank of a range. -/
def registerWindow (bankLo bankHi : Nat) : MapRequest :=
  { mode := .direct, bankLo := bankLo, bankHi := bankHi, addrLo := 0x2000, addrHi := 0x5FFF, dev := .mmio, offset := 0
    size := 0 }

/-- The call that maps the sentinel everywhere. -/
def sentinelMap : MapRequest :=
  { mode := .direct, bankLo := 0, bankHi := 0xFF, addrLo := 0, addrHi := 0xFFFF, dev := .unmapped, offset := 0, size := 0 }

theorem fixedMaps_eq :
    fixedMaps =
      [wholeWram, lowWram 0x80 0xBF, lowWram 0 0x3F, registerWindow 0x80 0xBF, registerWindow 0 0x3F, sentinelMap] := rfl

@[simp] theorem wholeWram_covers (a : Nat) : wholeWram.covers a = true ↔ a / 65536 = 0x7E ∨ a / 65536 = 0x7F := by
  simp only [MapRequest.covers_iff, wholeWram, pageOf_eq]
  omega

@[simp] theorem lowWram_covers (bankLo bankHi a : Nat) :
    (lowWram bankLo bankHi).covers a = true ↔ bankLo ≤ a / 65536 ∧ a / 65536 ≤ bankHi ∧ a % 65536 < 0x2000 := by
  simp only [MapRequest.covers_iff, lowWram, pageOf_eq]
  omega

@[simp] theorem registerWindow_covers (bankLo bankHi a : Nat) :
    (registerWindow bankLo bankHi).covers a = true ↔
      bankLo ≤ a / 65536 ∧ a / 65536 ≤ bankHi ∧ 0x2000 ≤ a % 65536 ∧ a % 65536 < 0x6000 := by
  simp only [MapRequest.covers_iff, registerWindow, pageOf_eq]
  omega

@[simp] theorem sentinelMap_covers (a : Nat) : sentinelMap.covers a = true ↔ a / 65536 ≤ 0xFF := by
  simp only [MapRequest.covers_iff, sentinelMap, pageOf_eq]
  omega

theorem wholeWram_index (bank page : Nat) : wholeWram.index bank page = ((bank - 0x7E) * 256 + page) * 256 := by
  simp [MapRequest.index, wholeWram, wrapIndex, pageOf]

theorem lowWram_index (bankLo bankHi bank page : Nat) :
    (lowWram bankLo bankHi).index bank page = ((bank - bankLo) * 32 + page) * 256 % 0x2000 := by
  simp [MapRequest.index, lowWram, wrapIndex, pageOf]

theorem wholeWram_target {a : Nat} (h : wholeWram.covers a = true) : wholeWram.target 0x20000 a = a - 0x7E0000 := by
  rw [wholeWram_covers] at h
  have hpage := pageOf_eq a
  rw [target_linear rfl rfl, wholeWram_index, mirror_of_lt (by omega) (by omega)]
  omega

/-- R107: a bank's pages take the index once around, so every bank has the same bytes. -/
theorem lowWram_target {bankLo bankHi a : Nat} (h : (lowWram bankLo bankHi).covers a = true) :
    (lowWram bankLo bankHi).target 0x20000 a = a % 65536 := by
  rw [lowWram_covers] at h
  have hpage := pageOf_eq a
  rw [target_linear rfl rfl, lowWram_index, mirror_of_lt (by omega) (by omega)]
  omega

/-! What `resolve` answers from the newest call that covers the address (R102). -/

section
variable {b : Bus} {a : Addr} {r : MapRequest} (hfind : b.maps.find? (fun r => r.covers a.toNat) = some r)
include hfind

theorem resolve_wram (hdev : r.dev = .wram) (hlt : r.target 0x20000 a.toNat < 0x20000) :
    b.resolve a = .wram (r.target 0x20000 a.toNat) := by
  simp only [Bus.resolve, hfind, hdev, deviceSize, if_pos hlt]

theorem resolve_mmio (hdev : r.dev = .mmio) (hmode : r.mode = .direct) : b.resolve a = .mmio a.toNat := by
  simp only [Bus.resolve, hfind, hdev, target_direct hmode]

theorem resolve_unmapped (hdev : r.dev = .unmapped) (hmode : r.mode = .direct) : b.resolve a = .unmapped a.toNat := by
  simp only [Bus.resolve, hfind, hdev, target_direct hmode]

end

/-! The four parts of the fixed map. -/

section
variable {b : Bus} (hmaps : b.maps = fixedMaps) {a : Addr}
include hmaps

theorem resolve_fixed_wholeWram (h : a.toNat / 65536 = 0x7E ∨ a.toNat / 65536 = 0x7F) :
    b.resolve a = .wram (a.toNat - 0x7E0000) := by
  have hcovers : wholeWram.covers a.toNat = true := (wholeWram_covers _).2 h
  have hfind : b.maps.find? (fun r => r.covers a.toNat) = some wholeWram := by
    rw [hmaps, fixedMaps_eq, List.find?_cons_of_pos (by simp; omega)]
  have htarget := wholeWram_target hcovers
  rw [resolve_wram hfind rfl (by omega), htarget]

theorem resolve_fixed_lowWram (hbank : a.toNat / 65536 % 128 < 0x40) (hoff : a.toNat % 65536 < 0x2000) :
    b.resolve a = .wram (a.toNat % 65536) := by
  have ha := a.isLt
  obtain ⟨bankLo, bankHi, hcovers, hfind⟩ : ∃ bankLo bankHi, (lowWram bankLo bankHi).covers a.toNat = true ∧
      b.maps.find? (fun r => r.covers a.toNat) = some (lowWram bankLo bankHi) := by
    rw [hmaps, fixedMaps_eq, List.find?_cons_of_neg (by simp; omega)]
    by_cases hhigh : 0x80 ≤ a.toNat / 65536
    · have hcovers : (lowWram 0x80 0xBF).covers a.toNat = true := by simp; omega
      exact ⟨_, _, hcovers, List.find?_cons_of_pos hcovers⟩
    · have hcovers : (lowWram 0 0x3F).covers a.toNat = true := by simp; omega
      rw [List.find?_cons_of_neg (by simp; omega)]
      exact ⟨_, _, hcovers, List.find?_cons_of_pos hcovers⟩
  have htarget := lowWram_target hcovers
  rw [resolve_wram hfind rfl (by omega), htarget]

theorem resolve_fixed_register (hbank : a.toNat / 65536 % 128 < 0x40) (hlo : 0x2000 ≤ a.toNat % 65536)
    (hhi : a.toNat % 65536 < 0x6000) : b.resolve a = .mmio a.toNat := by
  have ha := a.isLt
  obtain ⟨bankLo, bankHi, hfind⟩ : ∃ bankLo bankHi,
      b.maps.find? (fun r => r.covers a.toNat) = some (registerWindow bankLo bankHi) := by
    rw [hmaps, fixedMaps_eq, List.find?_cons_of_neg (by simp; omega), List.find?_cons_of_neg (by simp; omega),
      List.find?_cons_of_neg (by simp; omega)]
    by_cases hhigh : 0x80 ≤ a.toNat / 65536
    · exact ⟨_, _, List.find?_cons_of_pos (by simp; omega)⟩
    · rw [List.find?_cons_of_neg (by simp; omega)]
      exact ⟨_, _, List.find?_cons_of_pos (by simp; omega)⟩
  exact resolve_mmio hfind rfl rfl

theorem resolve_fixed_sentinel (hwram : ¬ (a.toNat / 65536 = 0x7E ∨ a.toNat / 65536 = 0x7F))
    (hlow : ¬ (a.toNat / 65536 % 128 < 0x40 ∧ a.toNat % 65536 < 0x6000)) : b.resolve a = .unmapped a.toNat := by
  have ha := a.isLt
  have hfind : b.maps.find? (fun r => r.covers a.toNat) = some sentinelMap := by
    rw [hmaps, fixedMaps_eq, List.find?_cons_of_neg (by simp; omega), List.find?_cons_of_neg (by simp; omega),
      List.find?_cons_of_neg (by simp; omega), List.find?_cons_of_neg (by simp; omega),
      List.find?_cons_of_neg (by simp; omega), List.find?_cons_of_pos (by simp; omega)]
  exact resolve_unmapped hfind rfl rfl

/-- R113: what every bus address reaches. -/
theorem resolve_fixedMaps :
    b.resolve a =
      if a.toNat / 65536 = 0x7E ∨ a.toNat / 65536 = 0x7F then .wram (a.toNat - 0x7E0000)
      else if a.toNat / 65536 % 128 < 0x40 ∧ a.toNat % 65536 < 0x2000 then .wram (a.toNat % 65536)
      else if a.toNat / 65536 % 128 < 0x40 ∧ 0x2000 ≤ a.toNat % 65536 ∧ a.toNat % 65536 < 0x6000 then .mmio a.toNat
      else .unmapped a.toNat := by
  split_ifs with hwram hlow hregister
  · exact resolve_fixed_wholeWram hmaps hwram
  · exact resolve_fixed_lowWram hmaps hlow.1 hlow.2
  · obtain ⟨hbank, hlo, hhi⟩ := hregister
    exact resolve_fixed_register hmaps hbank hlo hhi
  · exact resolve_fixed_sentinel hmaps hwram (by omega)

/-- R112: without storage an address is its own in-device index. -/
theorem resolve_of_byteAt_none (h : b.byteAt a = none) : b.resolve a = .mmio a.toNat ∨ b.resolve a = .unmapped a.toNat := by
  unfold Bus.byteAt at h
  rw [resolve_fixedMaps hmaps] at h ⊢
  split_ifs at h ⊢
  · cases h
  · cases h
  · exact .inl rfl
  · exact .inr rfl

end

/-- Settles O43: the newest of R113's calls that covers the address decides, part by part (`resolve_fixedMaps`); an address
without storage has itself as index, so its mirrors are itself (`resolve_of_byteAt_none`). -/
theorem fixedSystemMap : Obligations.FixedSystemMap := by
  unfold Obligations.FixedSystemMap
  refine ⟨fun b a hmaps => resolve_fixedMaps hmaps, fun b a1 a2 hmaps hnone hmirror => ?_⟩
  have heq : b.resolve a1 = b.resolve a2 := of_decide_eq_true hmirror
  have hnone2 : b.byteAt a2 = none := by rw [← hnone, Bus.byteAt, Bus.byteAt, heq]
  obtain h1 | h1 := resolve_of_byteAt_none hmaps hnone <;>
    obtain h2 | h2 := resolve_of_byteAt_none hmaps hnone2 <;>
    simp only [h1, h2, Target.mmio.injEq, Target.unmapped.injEq, BitVec.toNat_inj, reduceCtorEq] at heq
  · exact heq
  · exact heq

end Sys2Proof.Machine
end

section
/-! PROOFS. A bus write is read back at its mirrors and nowhere else (20_memory.md R104, R110, R112; 10_state.md R40). -/

namespace Sys2Proof.Machine

theorem modifyDevice_eq_modify (f : MemDevice → MemDevice) (l : List MemDevice) (k : Nat) :
    modifyDevice f l k = l.modify k f := by
  induction l generalizing k with
  | nil => cases k <;> rfl
  | cons d l ih => cases k <;> simp [modifyDevice, ih]

/-- R110: a write-protected patchable device keeps its bytes. -/
theorem MemDevice.write_of_protected {d : MemDevice} (h : d.patchable = true ∧ d.writeProtect = true) (i : Nat) (v : Byte) :
    d.write i v = d := by
  simp [MemDevice.write, h]

theorem MemDevice.read_write {d : MemDevice} (hd : d.ok = true) (h : ¬ (d.patchable = true ∧ d.writeProtect = true))
    (i j : Nat) (v : Byte) : (d.write i v).read j = if j = i then v else d.read j := by
  simp only [MemDevice.ok, Memory.ok, Bool.and_eq_true] at hd
  rw [MemDevice.write, if_neg (by simpa using h)]
  exact Memory.read_write hd.1 i j v

theorem MemDevice.read_write_of_ne {d : MemDevice} (hd : d.ok = true) {i j : Nat} (hne : j ≠ i) (v : Byte) :
    (d.write i v).read j = d.read j := by
  by_cases h : d.patchable = true ∧ d.writeProtect = true
  · rw [MemDevice.write_of_protected h]
  · rw [MemDevice.read_write hd h, if_neg hne]

section
variable {b : Bus} (hok : b.memoryOk = true)
include hok

theorem Bus.wram_wf : Memory.wf b.wram = true := by
  simp only [Bus.memoryOk, Memory.ok, Bool.and_eq_true] at hok
  exact hok.1.1

theorem Bus.device_ok {k : Nat} {d : MemDevice} (hd : b.devices[k]? = some d) : d.ok = true := by
  simp only [Bus.memoryOk, Bool.and_eq_true] at hok
  exact List.all_eq_true.1 hok.2 d (List.mem_of_getElem? hd)

/-- A store changes no byte but its target's. -/
theorem stored_store_of_ne {t u : Target} (hne : u ≠ t) (v : Byte) : (b.store v t).stored u = b.stored u := by
  cases t with
  | unmapped i | mmio i => rfl
  | wram i =>
    cases u with
    | unmapped j | mmio j | dev l j => rfl
    | wram j =>
      have hji : j ≠ i := fun e => hne (congrArg _ e)
      simp only [Bus.store, Bus.stored, Memory.read_write (Bus.wram_wf hok), if_neg hji]
  | dev k i =>
    cases u with
    | unmapped j | mmio j | wram j => rfl
    | dev l j =>
      simp only [Bus.store, Bus.stored, modifyDevice_eq_modify, List.getElem?_modify]
      by_cases hkl : k = l
      · subst hkl
        have hji : j ≠ i := fun e => hne (congrArg _ e)
        cases hd : b.devices[k]? with
        | none => rfl
        | some d => simp [MemDevice.read_write_of_ne (Bus.device_ok hok hd) hji]
      · simp [hkl]

theorem stored_store_wram (i : Nat) (v : Byte) : (b.store v (.wram i)).stored (.wram i) = some v := by
  simp only [Bus.store, Bus.stored, Memory.read_write (Bus.wram_wf hok), if_true]

/-- R110: a store to a device is read back unless the device is protected. -/
theorem stored_store_dev {k : Nat} {d : MemDevice} (hd : b.devices[k]? = some d) (i : Nat) (v : Byte) :
    (b.store v (.dev k i)).stored (.dev k i) =
      if d.patchable = true ∧ d.writeProtect = true then b.stored (.dev k i) else some v := by
  have hstored : (b.store v (.dev k i)).stored (.dev k i) = some ((d.write i v).read i) := by
    simp [Bus.store, Bus.stored, modifyDevice_eq_modify, hd]
  rw [hstored]
  split
  next h => simp [Bus.stored, hd, MemDevice.write_of_protected h]
  next h => rw [MemDevice.read_write (Bus.device_ok hok hd) h, if_pos rfl]

end

/-- Without a register at the address, storage after a write is storage after the store. -/
theorem busWrite_byteAt {s : State} {a : Addr} (h : NoRegister s a) (v : Byte) (b : Addr) :
    (busWrite a v s).bus.byteAt b = (s.bus.store v (s.bus.resolve a)).stored (s.bus.resolve b) := by
  rw [busWrite_bus h, ← store_resolve s.bus v (s.bus.resolve a) b]
  rfl

theorem noRegister_of_resolve {s : State} {a : Addr} {t : Target} (h : s.bus.resolve a = t) (ht : t.isRegister = false) :
    NoRegister s a := by
  rw [NoRegister, h, ht]

/-- R40: the latch takes the byte read. -/
theorem busRead_mdr (a : Addr) (s : State) : (busRead a s).2.bus.mdr = (busRead a s).1 := by rw [busRead_bus]

/-- R40: the latch takes the byte written, whatever it reaches. -/
theorem busWrite_mdr (a : Addr) (v : Byte) (s : State) : (busWrite a v s).bus.mdr = v := by
  unfold busWrite
  split <;> rfl

/-- R110: a read of an unmapped address answers the latch and changes nothing. -/
theorem busRead_unmapped {s : State} {a : Addr} {i : Nat} (h : s.bus.resolve a = .unmapped i) :
    busRead a s = (s.bus.mdr, s) := by
  simp only [busRead, h]
  rfl

/-- R110: a write to an unmapped address reaches the latch only. -/
theorem busWrite_unmapped {s : State} {a : Addr} {i : Nat} (h : s.bus.resolve a = .unmapped i) (v : Byte) :
    busWrite a v s = setMdr v s := by
  simp only [busWrite, h]
  rfl

/-- Settles O42: what a store leaves of its target's byte and of every other (`stored_store_wram`, `stored_store_dev`,
`stored_store_of_ne`), read through addresses that a store does not move (`busWrite_byteAt`). -/
theorem memoryWriteRead : Obligations.MemoryWriteRead := by
  unfold Obligations.MemoryWriteRead
  intro s a v hok
  refine ⟨?other, ?wram, ?dev, ?unmapped, busRead_mdr a s, busWrite_mdr a v s⟩
  case other =>
    intro b hne ha
    rw [busWrite_byteAt ha, stored_store_of_ne hok hne]
    rfl
  case wram =>
    intro b i ha hmirror
    have hb : s.bus.resolve a = s.bus.resolve b := of_decide_eq_true hmirror
    rw [busWrite_byteAt (noRegister_of_resolve ha rfl), ← hb, ha, stored_store_wram hok]
  case dev =>
    intro b k i d ha hd hmirror
    have hb : s.bus.resolve a = s.bus.resolve b := of_decide_eq_true hmirror
    rw [busWrite_byteAt (noRegister_of_resolve ha rfl), Bus.byteAt, ← hb, ha, stored_store_dev hok hd]
  case unmapped => exact fun i ha => ⟨busRead_unmapped ha, busWrite_unmapped ha v⟩

end Sys2Proof.Machine
end

section
/-! PROOFS. The master clocks of a bus cycle (20_memory.md R125): the table, and that with the controller at rest a
cycle takes its own time only. -/

namespace Sys2Proof.Machine

/-- The clock and the parameters are the same: all that the run of the clock depends on. -/
def SameTime (s t : State) : Prop := t.clk = s.clk ∧ t.params = s.params

theorem SameTime.trans {s t u : State} (h : SameTime s t) (k : SameTime t u) : SameTime s u :=
  ⟨k.1.trans h.1, k.2.trans h.2⟩

theorem SameTime.symm {s t : State} (h : SameTime s t) : SameTime t s := ⟨h.1.symm, h.2.symm⟩

/-! Time passes alike in two states with the same clock, whatever else differs. -/

section
variable {s t : State} (h : SameTime s t)
include h

theorem advance_sameTime : SameTime (advance s) (advance t) := by
  obtain ⟨hclk, hparams⟩ := h
  exact ⟨by rw [advance, advance, hclk, hparams], hparams⟩

theorem refreshDue_sameTime : refreshDue t = refreshDue s := by
  rw [refreshDue, refreshDue, h.1]

theorem eventRefresh_sameTime : SameTime (eventRefresh s) (eventRefresh t) := by
  rw [eventRefresh, eventRefresh, refreshDue_sameTime h]
  obtain ⟨hclk, hparams⟩ := h
  split
  · exact ⟨by rw [hclk], hparams⟩
  · exact ⟨hclk, hparams⟩

theorem eventHdmaInit_sameTime : SameTime (eventHdmaInit s) (eventHdmaInit t) := by
  obtain ⟨hclk, hparams⟩ := h
  rw [eventHdmaInit, eventHdmaInit, hclk]
  split
  · exact ⟨rfl, hparams⟩
  · exact ⟨hclk, hparams⟩

theorem eventHdmaRun_sameTime : SameTime (eventHdmaRun s) (eventHdmaRun t) := by
  obtain ⟨hclk, hparams⟩ := h
  rw [eventHdmaRun, eventHdmaRun, hclk, hparams]
  split
  · exact ⟨rfl, rfl⟩
  · exact ⟨hclk, hparams⟩

theorem eventFrameStart_sameTime : SameTime (eventFrameStart s) (eventFrameStart t) := by
  obtain ⟨hclk, hparams⟩ := h
  rw [eventFrameStart, eventFrameStart, hclk]
  split
  · exact ⟨rfl, hparams⟩
  · exact ⟨hclk, hparams⟩

/-- What leaves the clock alone leaves it the same in both states. -/
theorem SameTime.congr {f : State → State} (hf : ∀ u, SameTime u (f u)) : SameTime (f s) (f t) :=
  (hf s).symm.trans (h.trans (hf t))

theorem eventNmi_sameTime : SameTime (eventNmi s) (eventNmi t) :=
  h.congr fun u => by unfold eventNmi; split <;> exact ⟨rfl, rfl⟩

theorem eventAutojoy_sameTime : SameTime (eventAutojoy s) (eventAutojoy t) :=
  h.congr fun u => by unfold eventAutojoy; split <;> exact ⟨rfl, rfl⟩

theorem rasterCompare_sameTime : SameTime (rasterCompare s) (rasterCompare t) := h.congr fun _ => ⟨rfl, rfl⟩

theorem lineEvents_sameTime : SameTime (lineEvents s) (lineEvents t) :=
  eventFrameStart_sameTime <| eventAutojoy_sameTime <| eventNmi_sameTime <| eventHdmaRun_sameTime <|
    eventHdmaInit_sameTime <| eventRefresh_sameTime h

theorem clockBare_sameTime : SameTime (clockBare s) (clockBare t) :=
  rasterCompare_sameTime (lineEvents_sameTime (advance_sameTime h))

omit h in
theorem iterate_sameTime {f : State → State} (hf : ∀ {s t}, SameTime s t → SameTime (f s) (f t)) (n : Nat) {s t : State}
    (h : SameTime s t) : SameTime (iterate f n s) (iterate f n t) := by
  induction n generalizing s t with
  | zero => exact h
  | succ n ih => exact ih (hf h)

theorem clock_sameTime : SameTime (clock s) (clock t) := by
  rw [clock, clock, refreshDue_sameTime (advance_sameTime h)]
  split
  · exact iterate_sameTime clockBare_sameTime _ (clockBare_sameTime h)
  · exact clockBare_sameTime h

theorem spend_sameTime (k : Nat) : SameTime (spend k s) (spend k t) := iterate_sameTime clock_sameTime k h

end

/-! No access moves the clock. -/

theorem synchronize_sameTime (g : AgentId) (s : State) : SameTime s (synchronize g s) := by
  cases g <;> exact ⟨rfl, rfl⟩

theorem busRead_sameTime (a : Addr) (s : State) : SameTime s (busRead a s).2 := by
  refine ⟨?clk, (busRead_static a s).2.1⟩
  unfold busRead
  split
  · show (mmioRead a s).2.clk = s.clk
    unfold mmioRead
    split
    · rfl
    · unfold readCpuReg
      split
      · rfl
      · split <;> rfl
    · exact (synchronize_sameTime _ s).1
  · rfl

theorem writeWrio_clk (v : Byte) (s : State) : (writeWrio v s).clk = s.clk := by
  rw [writeWrio]
  split <;> rfl

theorem writeCpuReg_clk (o : Nat) (v : Byte) (s : State) : (writeCpuReg o v s).clk = s.clk := by
  unfold writeCpuReg
  split
  · rfl
  · split
    case h_7 => exact writeWrio_clk v s
    all_goals rfl

theorem busWrite_sameTime (a : Addr) (v : Byte) (s : State) : SameTime s (busWrite a v s) := by
  refine ⟨?clk, (busWrite_static a v s).2.1⟩
  unfold busWrite
  split
  · show (mmioWrite a v s).clk = s.clk
    unfold mmioWrite
    split
    · rfl
    · exact writeCpuReg_clk _ v s
    · exact (synchronize_sameTime _ s).1
  · rfl

/-- The cycle event of a controller at rest takes no time. -/
theorem endCycle_clk {s : State} (h : Quiet s) (busy : Bool) : (endCycle busy s).clk = s.clk := by
  rw [endCycle_quiet h]
  cases busy <;> rfl

theorem read8_clk {s : State} (h : Quiet s) (a : Addr) : (read8 a s).2.clk = (spend (speed s.io.memsel a) s).clk := by
  have hquiet : Quiet (busRead a s).2 := quiet_of_dma h (busRead_dma a s)
  rw [read8_quiet h, endCycle_clk (quiet_spend hquiet _), (spend_sameTime (busRead_sameTime a s) _).1]

theorem idle_clk {s : State} (h : Quiet s) : (idle s).clk = (spend 6 s).clk := by
  rw [idle_quiet h, endCycle_clk (quiet_spend h _)]

theorem write8_clk {s : State} (h : Quiet s) {a : Addr} {v : Byte} (hquiet : Quiet (busWrite a v s)) :
    (write8 a v s).clk = (spend (speed s.io.memsel a) s).clk := by
  rw [write8_quiet h, endCycle_clk (quiet_spend hquiet _), (spend_sameTime (busWrite_sameTime a v s) _).1]

/-! The table of R125, by the half of the bank and the offset. -/

theorem speed_low {a : Addr} (hbank : a.toNat / 65536 % 128 < 0x40) (memsel : Bool) :
    speed memsel a =
      if a.toNat % 65536 < 0x2000 then 8
      else if a.toNat % 65536 < 0x4000 then 6
      else if a.toNat % 65536 < 0x4200 then 12
      else if a.toNat % 65536 < 0x6000 then 6
      else if a.toNat % 65536 < 0x8000 then 8
      else if a.toNat / 65536 < 0x40 then 8 else if memsel then 6 else 8 := by
  rw [speed, if_pos hbank]

theorem speed_high {a : Addr} (hbank : ¬ a.toNat / 65536 % 128 < 0x40) (memsel : Bool) :
    speed memsel a = if a.toNat / 65536 < 0x80 then 8 else if memsel then 6 else 8 := by
  rw [speed, if_neg hbank]

/-- Settles O45: the table row by row (`speed_low`, `speed_high`); a cycle's access and its cycle event leave the clock, and
time passes alike whatever the access changed (`spend_sameTime`). -/
theorem speedTable : Obligations.SpeedTable := by
  unfold Obligations.SpeedTable
  refine ⟨fun memsel a => ?table, fun s a v h => ⟨read8_clk h a, idle_clk h, write8_clk h⟩⟩
  have ha := a.isLt
  refine ⟨?ram, ?video, ?serial, ?registers, ?expansion, ?romSlow, ?romLow, ?middle, ?romHigh⟩ <;> intros
  case middle => rw [speed_high (by omega), if_pos (by omega)]
  case romHigh => rw [speed_high (by omega), if_neg (by omega)]
  all_goals simp (disch := omega) only [speed_low, if_pos, if_neg]

end Sys2Proof.Machine
end

section
/-! PROOFS. The decoder and the encoder are inverse to each other, and every opcode decodes (30_encoding.md R170-R173,
R183). -/

namespace Sys2Proof

/-! ### What `decode` does with a list of bytes -/

theorem operandLen_le (m8 x8 : Bool) (op : Byte) : operandLen m8 x8 op ≤ 3 := by
  unfold operandLen
  cases operandOf op <;> cases m8 <;> cases x8 <;> decide

/-- R171: with its operand bytes after it, an opcode decodes. -/
theorem decode_cons {m8 x8 : Bool} {op : Byte} {bs : List Byte} (h : operandLen m8 x8 op ≤ bs.length) :
    decode m8 x8 (op :: bs) =
      .ok (decodeOp m8 x8 op (bs.getD 0 0) (bs.getD 1 0) (bs.getD 2 0), bs.drop (operandLen m8 x8 op)) :=
  if_neg (Nat.not_lt.2 h)

theorem decode_eq_error {m8 x8 : Bool} {op : Byte} {bs : List Byte} {e : DecodeError}
    (h : decode m8 x8 (op :: bs) = .error e) : bs.length < operandLen m8 x8 op := by
  by_contra hlen
  rw [decode_cons (Nat.not_lt.1 hlen)] at h
  cases h

theorem decode_eq_ok {m8 x8 : Bool} {l rest : List Byte} {i : Instr} (h : decode m8 x8 l = .ok (i, rest)) :
    ∃ op bs, l = op :: bs ∧ operandLen m8 x8 op ≤ bs.length ∧
      i = decodeOp m8 x8 op (bs.getD 0 0) (bs.getD 1 0) (bs.getD 2 0) ∧ rest = bs.drop (operandLen m8 x8 op) := by
  cases l with
  | nil => cases h
  | cons op bs =>
    by_cases hlen : bs.length < operandLen m8 x8 op
    · rw [decode, if_pos hlen] at h
      cases h
    · rw [decode_cons (Nat.not_lt.1 hlen)] at h
      cases h
      exact ⟨op, bs, rfl, Nat.not_lt.1 hlen, rfl, rfl⟩

/-- Settles O5: no opcode has more than three operand bytes. -/
theorem decodeTotal : Obligations.DecodeTotal := by
  unfold Obligations.DecodeTotal
  exact fun m8 x8 op b1 b2 b3 => ⟨_, _, decode_cons (operandLen_le m8 x8 op)⟩

/-! ### Operands of one and two bytes (R172, R173) -/

theorem decode_byte {m8 x8 : Bool} {op : Byte} {i : Instr} (b1 : Byte) (rest : List Byte)
    (hlen : operandLen m8 x8 op = 1) (hop : ∀ b2 b3, decodeOp m8 x8 op b1 b2 b3 = i) :
    decode m8 x8 (op :: b1 :: rest) = .ok (i, rest) := by
  rw [decode_cons (by simp [hlen]), hlen]
  exact congrArg (fun i => Except.ok (i, rest)) (hop _ _)

theorem decode_twoBytes {m8 x8 : Bool} {op : Byte} {i : Instr} (b1 b2 : Byte) (rest : List Byte)
    (hlen : operandLen m8 x8 op = 2) (hop : ∀ b3, decodeOp m8 x8 op b1 b2 b3 = i) :
    decode m8 x8 (op :: b1 :: b2 :: rest) = .ok (i, rest) := by
  rw [decode_cons (by simp [hlen]), hlen]
  exact congrArg (fun i => Except.ok (i, rest)) (hop _)

/-- `b8` is the mode bit that selects the width of the immediate. -/
theorem decode_immediate {m8 x8 b8 : Bool} {op : Byte} {f : Imm → Instr} (b1 b2 : Byte) (rest : List Byte)
    (hlen : operandLen m8 x8 op = if b8 then 1 else 2)
    (hop : ∀ b2 b3, decodeOp m8 x8 op b1 b2 b3 = f (immOf b8 b1 b2)) :
    decode m8 x8 (op :: b1 :: b2 :: rest) =
      .ok (if b8 then (f (.b8 b1), b2 :: rest) else (f (.w16 (word b2 b1)), rest)) := by
  cases b8 with
  | true => exact decode_byte b1 (b2 :: rest) hlen hop
  | false => exact decode_twoBytes b1 b2 rest hlen (hop b2)

/-- Settles O6: the operand length of each opcode is read off R183's map, and its instruction off `decodeOp`. -/
theorem immediateWidths : Obligations.ImmediateWidths := by
  unfold Obligations.ImmediateWidths
  intro m8 x8 b1 b2 r
  refine ⟨?immM, ?immX, ?byte, ?pea, ?mvn, ?mvp⟩
  case immM =>
    refine ⟨?_, ?_, ?_, ?_, ?_, ?_, ?_, ?_⟩ <;> exact decode_immediate b1 b2 r rfl fun _ _ => rfl
  case immX =>
    refine ⟨?_, ?_, ?_, ?_⟩ <;> exact decode_immediate b1 b2 r rfl fun _ _ => rfl
  case byte =>
    refine ⟨?_, ?_, ?_, ?_, ?_⟩ <;> exact decode_byte b1 (b2 :: r) rfl fun _ _ => rfl
  case pea | mvn | mvp => exact decode_twoBytes b1 b2 r rfl fun _ => rfl

/-! ### Decoding undoes encoding -/

/-- An instruction is read back when its encoding has its opcode's length and `decodeOp` assembles it from there. -/
theorem decode_encode_of {m8 x8 : Bool} {i : Instr} {op : Byte} {bs rest : List Byte} (hi : encode i = op :: bs)
    (hlen : bs.length = operandLen m8 x8 op)
    (hop : decodeOp m8 x8 op ((bs ++ rest).getD 0 0) ((bs ++ rest).getD 1 0) ((bs ++ rest).getD 2 0) = i) :
    decode m8 x8 (encode i ++ rest) = .ok (i, rest) := by
  rw [hi, List.cons_append, decode_cons (by simp [hlen]), hop, ← hlen, List.drop_left]

theorem long_bankOf_word_offOf (a : Addr) : long (bankOf a) (word (hi (offOf a)) (lo (offOf a))) = a := by
  rw [word_hi_lo, long_bankOf_offOf]

theorem immOf_getD_bytes {b8 : Bool} {v : Imm} (h : v.isByte = b8) (rest : List Byte) :
    immOf b8 ((v.bytes ++ rest).getD 0 0) ((v.bytes ++ rest).getD 1 0) = v := by
  subst h
  cases v with
  | b8 v => rfl
  | w16 v => exact congrArg Imm.w16 (word_hi_lo v)

theorem Imm.bytes_length {b8 : Bool} {v : Imm} (h : v.isByte = b8) : v.bytes.length = if b8 then 1 else 2 := by
  subst h
  cases v <;> rfl

theorem isByte_of_wf_immM {m8 x8 : Bool} {i : Instr} {v : Imm} (hv : i.immM = some v) (h : i.wf m8 x8 = true) :
    v.isByte = m8 := by
  rw [Instr.wf, hv] at h
  exact eq_of_beq (Bool.and_eq_true_iff.1 h).1

theorem isByte_of_wf_immX {m8 x8 : Bool} {i : Instr} {v : Imm} (hv : i.immX = some v) (h : i.wf m8 x8 = true) :
    v.isByte = x8 := by
  rw [Instr.wf, hv] at h
  exact eq_of_beq (Bool.and_eq_true_iff.1 h).2

/-- One case per operand format; the last holds the instructions without operand, of one byte, and the block moves. -/
theorem decode_encode {m8 x8 : Bool} (i : Instr) (h : i.wf m8 x8 = true) (rest : List Byte) :
    decode m8 x8 (encode i ++ rest) = .ok (i, rest) := by
  cases i with
  | oraImm v | andImm v | eorImm v | adcImm v | bitImm v | ldaImm v | cmpImm v | sbcImm v =>
    have hv : v.isByte = m8 := isByte_of_wf_immM rfl h
    exact decode_encode_of rfl (Imm.bytes_length hv) (congrArg _ (immOf_getD_bytes hv rest))
  | ldyImm v | ldxImm v | cpyImm v | cpxImm v =>
    have hv : v.isByte = x8 := isByte_of_wf_immX rfl h
    exact decode_encode_of rfl (Imm.bytes_length hv) (congrArg _ (immOf_getD_bytes hv rest))
  | oraLong o | oraLongx o | andLong o | andLongx o | eorLong o | eorLongx o | adcLong o | adcLongx o | staLong o
  | staLongx o | ldaLong o | ldaLongx o | cmpLong o | cmpLongx o | sbcLong o | sbcLongx o | jsl o | jmlLong o =>
    exact decode_encode_of rfl rfl (congrArg _ (long_bankOf_word_offOf o))
  | oraAbs o | oraAbsx o | oraAbsy o | andAbs o | andAbsx o | andAbsy o | eorAbs o | eorAbsx o | eorAbsy o | adcAbs o
  | adcAbsx o | adcAbsy o | staAbs o | staAbsx o | staAbsy o | ldaAbs o | ldaAbsx o | ldaAbsy o | cmpAbs o | cmpAbsx o
  | cmpAbsy o | sbcAbs o | sbcAbsx o | sbcAbsy o | tsbAbs o | trbAbs o | aslAbs o | aslAbsx o | rolAbs o | rolAbsx o
  | lsrAbs o | lsrAbsx o | rorAbs o | rorAbsx o | incAbs o | incAbsx o | decAbs o | decAbsx o | bitAbs o | bitAbsx o
  | stxAbs o | styAbs o | stzAbs o | stzAbsx o | ldxAbs o | ldxAbsy o | ldyAbs o | ldyAbsx o | cpxAbs o | cpyAbs o
  | jsrAbs o | jsrAbsxind o | jmpAbs o | jmpAbsind o | jmpAbsxind o | jmlAbsindl o | per o | pea o | brl o =>
    exact decode_encode_of rfl rfl (congrArg _ (word_hi_lo o))
  | _ => exact decode_encode_of rfl rfl rfl

/-- Settles O8: `decode_encode`, an operand being what its own bytes assemble to. -/
theorem decodeEncode : Obligations.DecodeEncode := by
  unfold Obligations.DecodeEncode
  exact fun m8 x8 i rest h => decode_encode i h rest

/-! ### Encoding undoes decoding: R183's map against `encode`, row by row -/

/-- The opcode at a row (high nibble) and column (low nibble) of R183's map. -/
def opcodeAt (row col : Fin 16) : Byte := BitVec.ofNat 8 (16 * row.val + col.val)

theorem exists_opcodeAt (op : Byte) : ∃ row col, op = opcodeAt row col := by
  refine ⟨⟨op.toNat / 16, by omega⟩, ⟨op.toNat % 16, by omega⟩, ?_⟩
  rw [opcodeAt, Nat.div_add_mod, BitVec.ofNat_toNat, BitVec.setWidth_eq]

/-- Two functions of the opcode are equal when they give every row of the map the same values. -/
theorem eq_of_rows {α : Type} {f g : Byte → α}
    (h : ∀ row, List.ofFn (fun col => f (opcodeAt row col)) = List.ofFn (fun col => g (opcodeAt row col)))
    (op : Byte) : f op = g op := by
  obtain ⟨row, col, rfl⟩ := exists_opcodeAt op
  exact congrFun (List.ofFn_injective (h row)) col

/-- The operand bytes of an opcode as its instruction holds them: MVN and MVP keep their two bytes (R173), other
operands of two or three bytes are assembled to a number. -/
def heldBytes (m8 x8 : Bool) (op b1 b2 b3 : Byte) : List Byte :=
  match operandOf op with
  | .none => []
  | .one => [b1]
  | .two => if op = 0x44 ∨ op = 0x54 then [b1, b2] else wordBytes (word b2 b1)
  | .three => longBytes (long b3 (word b2 b1))
  | .immM => (immOf m8 b1 b2).bytes
  | .immX => (immOf x8 b1 b2).bytes

theorem encode_decodeOp (m8 x8 : Bool) (b1 b2 b3 : Byte) : ∀ op,
    encode (decodeOp m8 x8 op b1 b2 b3) = op :: heldBytes m8 x8 op b1 b2 b3 :=
  eq_of_rows fun row => by fin_cases row <;> rfl

theorem immM_decodeOp (m8 x8 : Bool) (b1 b2 b3 : Byte) : ∀ op,
    (decodeOp m8 x8 op b1 b2 b3).immM = if operandOf op = .immM then some (immOf m8 b1 b2) else none :=
  eq_of_rows fun row => by fin_cases row <;> rfl

theorem immX_decodeOp (m8 x8 : Bool) (b1 b2 b3 : Byte) : ∀ op,
    (decodeOp m8 x8 op b1 b2 b3).immX = if operandOf op = .immX then some (immOf x8 b1 b2) else none :=
  eq_of_rows fun row => by fin_cases row <;> rfl

theorem immOf_isByte (b8 : Bool) (b1 b2 : Byte) : (immOf b8 b1 b2).isByte = b8 := by cases b8 <;> rfl

/-- R172: what `decodeOp` answers has the immediate width of the mode bits. -/
theorem decodeOp_wf (m8 x8 : Bool) (op b1 b2 b3 : Byte) : (decodeOp m8 x8 op b1 b2 b3).wf m8 x8 = true := by
  rw [Instr.wf, immM_decodeOp, immX_decodeOp]
  cases operandOf op <;> simp [immOf_isByte]

theorem wordBytes_word (b1 b2 : Byte) : wordBytes (word b2 b1) = [b1, b2] := by simp [wordBytes]

theorem longBytes_long (b1 b2 b3 : Byte) : longBytes (long b3 (word b2 b1)) = [b1, b2, b3] := by simp [longBytes]

theorem bytes_immOf (b8 : Bool) (b1 b2 b3 : Byte) :
    (immOf b8 b1 b2).bytes = [b1, b2, b3].take (if b8 then 1 else 2) := by
  cases b8 with
  | true => rfl
  | false => exact wordBytes_word b1 b2

/-- Assembled or not, the operand bytes are the ones that follow the opcode. -/
theorem heldBytes_eq_take (m8 x8 : Bool) (op b1 b2 b3 : Byte) :
    heldBytes m8 x8 op b1 b2 b3 = [b1, b2, b3].take (operandLen m8 x8 op) := by
  unfold heldBytes operandLen
  cases operandOf op with
  | none | one => rfl
  | two => rw [wordBytes_word, ite_self]; rfl
  | three => exact longBytes_long b1 b2 b3
  | immM => exact bytes_immOf m8 b1 b2 b3
  | immX => exact bytes_immOf x8 b1 b2 b3

theorem take_getD_append_drop {bs : List Byte} {n : Nat} (hn : n ≤ 3) (h : n ≤ bs.length) :
    [bs.getD 0 0, bs.getD 1 0, bs.getD 2 0].take n ++ bs.drop n = bs := by
  match n, bs with
  | 0, _ => rfl
  | 1, _ :: _ => rfl
  | 2, _ :: _ :: _ => rfl
  | 3, _ :: _ :: _ :: _ => rfl

/-- Settles O9: the encoding of what `decodeOp` answers is the opcode and its operand bytes (`encode_decodeOp`,
`heldBytes_eq_take`); a list is rejected only where one of at most three operand bytes is missing. -/
theorem encodeDecode : Obligations.EncodeDecode := by
  unfold Obligations.EncodeDecode
  refine ⟨fun m8 x8 l rest i h => ?decoded, fun m8 x8 l e h => ?rejected⟩
  case decoded =>
    obtain ⟨op, bs, rfl, hlen, rfl, rfl⟩ := decode_eq_ok h
    refine ⟨decodeOp_wf .., ?_⟩
    rw [encode_decodeOp, heldBytes_eq_take, List.cons_append, take_getD_append_drop (operandLen_le ..) hlen]
  case rejected =>
    cases l with
    | nil => exact Nat.zero_lt_succ 3
    | cons op bs => exact Nat.succ_lt_succ ((decode_eq_error h).trans_le (operandLen_le m8 x8 op))

end Sys2Proof
end

section
/-! PROOFS. The effective addresses of the data-addressing modes as numbers (30_encoding.md R175, R176). -/

namespace Sys2Proof

/-! ### Words and addresses as numbers -/

theorem lo_toNat (v : Word) : (lo v).toNat = v.toNat % 256 := BitVec.toNat_setWidth ..

theorem hi_toNat (v : Word) : (hi v).toNat = v.toNat / 256 := by
  have := v.isLt
  rw [hi, BitVec.extractLsb'_toNat, Nat.shiftRight_eq_div_pow]
  omega

theorem word_toNat (h l : Byte) : (word h l).toNat = l.toNat + 256 * h.toNat := by
  rw [word, BitVec.toNat_append, ← Nat.shiftLeft_add_eq_or_of_lt l.isLt, Nat.shiftLeft_eq]
  omega

theorem long_toNat (b : Byte) (o : Word) : (long b o).toNat = b.toNat * 65536 + o.toNat := by
  rw [long, BitVec.toNat_append, ← Nat.shiftLeft_add_eq_or_of_lt o.isLt, Nat.shiftLeft_eq]

theorem bank0_toNat (o : Word) : (long 0x00 o).toNat = o.toNat := by simp [long_toNat]

theorem page1_toNat (l : Byte) : (word 0x01 l).toNat = 256 + l.toNat := by simp [word_toNat, Nat.add_comm]

theorem zext_toNat (v : Byte) : (zext v).toNat = v.toNat := BitVec.toNat_setWidth_of_le (by decide)

theorem zext_add_toNat (o : Byte) (v : Word) : (zext o + v).toNat = (o.toNat + v.toNat) % 65536 := by
  rw [BitVec.toNat_add, zext_toNat]

end Sys2Proof

namespace Sys2Proof.Machine
open Sys2Proof.Claims

theorem ext24_toNat (v : Word) : (ext24 v).toNat = v.toNat := BitVec.toNat_setWidth_of_le (by decide)

theorem addr_of_toNat {a : Addr} {n : Nat} (h : a.toNat = n) : addr n = a := by
  rw [addr, ← h, BitVec.ofNat_toNat, BitVec.setWidth_eq]

/-! ### Byte k of an effective address -/

theorem linear_byte (b : Addr) (k : Nat) : ((EA.linear b).byte k).toNat = (b.toNat + k) % 2 ^ 24 := by
  rw [EA.byte, BitVec.toNat_add, BitVec.toNat_ofNat, Nat.add_mod_mod]

theorem linear_indexed_byte (b : Addr) (v : Word) (k : Nat) :
    ((EA.linear (b + ext24 v)).byte k).toNat = (b.toNat + v.toNat + k) % 2 ^ 24 := by
  rw [linear_byte, BitVec.toNat_add, ext24_toNat, Nat.mod_add_mod]

/-- R176's `dpa(t, k)`. -/
theorem dpa_byte (c : Cpu) (t : Word) (k : Nat) : ((c.dpa t).byte k).toNat = dpaNat c t.toNat k := by
  have hwrap : (c.e && decide (lo c.d = 0)) = true ↔ c.e = true ∧ c.d.toNat % 256 = 0 := by
    rw [Bool.and_eq_true_iff, decide_eq_true_iff, ← BitVec.toNat_inj, lo_toNat]
    rfl
  rw [Cpu.dpa, EA.byte, dpaNat, if_congr hwrap rfl rfl]
  split
  · simp only [bank0_toNat, word_toNat, hi_toNat, lo_toNat, BitVec.toNat_add, BitVec.toNat_ofNat]
    omega
  · simp only [bank0_toNat, BitVec.toNat_add, BitVec.toNat_ofNat]
    omega

/-- The stack-relative address of the sum n: modulo 2^16 by R175's formula, within page 1 by R176's words (log entry
26). -/
def stackNat (s : State) (n : Nat) : Nat :=
  if s.params.srPageWrap = true ∧ s.cpu.e = true then 256 + n % 256 else n % 65536

theorem sra_byte (s : State) (o : Byte) (k : Nat) :
    ((s.sra o).byte k).toNat = stackNat s (s.cpu.s.toNat + o.toNat + k) := by
  rw [State.sra, EA.byte, stackNat, if_congr Bool.and_eq_true_iff rfl rfl]
  split
  · simp only [bank0_toNat, page1_toNat, lo_toNat, zext_toNat, BitVec.toNat_add, BitVec.toNat_ofNat]
    omega
  · simp only [bank0_toNat, zext_toNat, BitVec.toNat_add, BitVec.toNat_ofNat]
    omega

/-! ### Pointer reads with the controller at rest -/

/-- t comes from s by internal and read cycles only, with v as the last byte on the bus. -/
structure AfterReads (s : State) (v : Byte) (t : State) : Prop where
  quiet : Quiet t
  bus : t.bus = { s.bus with mdr := v }
  cpu : t.cpu = s.cpu
  params : t.params = s.params

theorem AfterReads.refl {s : State} (h : Quiet s) : AfterReads s s.bus.mdr s := ⟨h, rfl, rfl, rfl⟩

section
variable {s t : State} {v : Byte} (h : AfterReads s v t)
include h

theorem AfterReads.idle : AfterReads s v (idle t) :=
  ⟨quiet_idle h.quiet, (idle_bus h.quiet).trans h.bus, (idle_cpu t).trans h.cpu, (idle_params t).trans h.params⟩

theorem AfterReads.dCycle : AfterReads s v (dCycle t) := by
  unfold Machine.dCycle
  split
  · exact h
  · exact h.idle

theorem AfterReads.sra (o : Byte) : t.sra o = s.sra o := by rw [State.sra, State.sra, h.cpu, h.params]

theorem AfterReads.read8 (a : Addr) : AfterReads s (read8 a t).1 (read8 a t).2 := by
  refine ⟨quiet_read8 h.quiet a, ?_, (read8_cpu a t).trans h.cpu, (read8_params a t).trans h.params⟩
  rw [read8_bus h.quiet, h.bus]

/-- R110: storage answers as in s, an unmapped address with the last byte on the bus. -/
theorem AfterReads.read8_value {a : Addr} (ha : NoRegister s a) : (Machine.read8 a t).1 = busByte s.bus v a := by
  have ha' : NoRegister t a := by
    unfold NoRegister
    rw [h.bus]
    exact ha
  rw [Machine.read8_value h.quiet, busRead_value ha', byteOr, h.bus]
  rfl

end

section
variable {s t : State} (h : AfterReads s s.bus.mdr t) {ea : EA}
include h

theorem readPointer16_toNat (hreg : ∀ a ∈ [ea.byte 0, ea.byte 1], NoRegister s a) :
    (readPointer16 ea t).1.toNat = pointerNat s (ea.byte 0) (ea.byte 1) := by
  simp only [List.forall_mem_cons] at hreg
  obtain ⟨h0, h1, -⟩ := hreg
  show (word (read8 (ea.byte 1) (read8 (ea.byte 0) t).2).1 (read8 (ea.byte 0) t).1).toNat = _
  rw [word_toNat, (h.read8 _).read8_value h1, h.read8_value h0]
  rfl

theorem readPointer24_toNat (hreg : ∀ a ∈ [ea.byte 0, ea.byte 1, ea.byte 2], NoRegister s a) :
    (readPointer24 ea t).1.toNat = pointer24Nat s (ea.byte 0) (ea.byte 1) (ea.byte 2) := by
  simp only [List.forall_mem_cons] at hreg
  obtain ⟨h0, h1, h2, -⟩ := hreg
  have hlow : AfterReads s (read8 (ea.byte 0) t).1 (read8 (ea.byte 0) t).2 := h.read8 _
  show (long (read8 (ea.byte 2) (read8 (ea.byte 1) (read8 (ea.byte 0) t).2).2).1
    (word (read8 (ea.byte 1) (read8 (ea.byte 0) t).2).1 (read8 (ea.byte 0) t).1)).toNat = _
  rw [long_toNat, word_toNat, (hlow.read8 _).read8_value h2, hlow.read8_value h1, h.read8_value h0, Nat.add_comm,
    Nat.mul_comm _ 65536]
  rfl

/-- A pointer in the direct page at the sum n. -/
theorem readPointer16_dpa {w : Word} {n : Nat} (hn : w.toNat = n)
    (hreg : ∀ a ∈ [(s.cpu.dpa w).byte 0, (s.cpu.dpa w).byte 1], NoRegister s a) :
    (readPointer16 (s.cpu.dpa w) t).1.toNat = pointerNat s (addr (dpaNat s.cpu n 0)) (addr (dpaNat s.cpu n 1)) := by
  subst hn
  rw [readPointer16_toNat h hreg, addr_of_toNat (dpa_byte _ _ _), addr_of_toNat (dpa_byte _ _ _)]

theorem readPointer24_dpa {w : Word} {n : Nat} (hn : w.toNat = n)
    (hreg : ∀ a ∈ [(s.cpu.dpa w).byte 0, (s.cpu.dpa w).byte 1, (s.cpu.dpa w).byte 2], NoRegister s a) :
    (readPointer24 (s.cpu.dpa w) t).1.toNat =
      pointer24Nat s (addr (dpaNat s.cpu n 0)) (addr (dpaNat s.cpu n 1)) (addr (dpaNat s.cpu n 2)) := by
  subst hn
  rw [readPointer24_toNat h hreg, addr_of_toNat (dpa_byte _ _ _), addr_of_toNat (dpa_byte _ _ _),
    addr_of_toNat (dpa_byte _ _ _)]

theorem readPointer16_sra {o : Byte} (hreg : ∀ a ∈ [(s.sra o).byte 0, (s.sra o).byte 1], NoRegister s a) :
    (readPointer16 (s.sra o) t).1.toNat =
      pointerNat s (addr (stackNat s (s.cpu.s.toNat + o.toNat + 0)))
        (addr (stackNat s (s.cpu.s.toNat + o.toNat + 1))) := by
  rw [readPointer16_toNat h hreg, addr_of_toNat (sra_byte _ _ _), addr_of_toNat (sra_byte _ _ _)]

end

/-! ### The modes -/

/-- Settles O17: one case per mode; a mode without pointer is the sum itself (`dpa_byte`, `sra_byte`, `linear_byte`), and
one with a pointer takes it from the bytes in memory (`readPointer16_toNat`, `readPointer24_toNat`). Both readings of
`sr,S` in emulation mode are the statement's, by `srPageWrap` (log entry 26). -/
theorem effectiveAddresses : Obligations.EffectiveAddresses := by
  unfold Obligations.EffectiveAddresses
  intro acc m s k himm hquiet hreg
  have hs : AfterReads s s.bus.mdr s := .refl hquiet
  cases m with
  | imm v => cases himm
  | dp o => simp only [effAddr, addrNat, dCycle_cpu, dpa_byte, zext_toNat]
  | dpx o | dpy o => simp only [effAddr, addrNat, idle_cpu, dCycle_cpu, dpa_byte, zext_add_toNat]
  | dpind o =>
    have hp := readPointer16_dpa hs.dCycle (zext_toNat o) hreg
    simp only [effAddr, addrNat, readPointer16_cpu, dCycle_cpu, linear_byte, long_toNat, hp]
  | dpxind o =>
    have hp := readPointer16_dpa hs.dCycle.idle (zext_add_toNat o s.cpu.x) hreg
    simp only [effAddr, addrNat, readPointer16_cpu, idle_cpu, dCycle_cpu, linear_byte, long_toNat, hp]
  | dpindy o =>
    have hp := readPointer16_dpa hs.dCycle (zext_toNat o) hreg
    simp only [effAddr, addrNat, pCycle_cpu, readPointer16_cpu, dCycle_cpu, linear_indexed_byte, long_toNat, hp]
  | dpindl o =>
    have hp := readPointer24_dpa hs.dCycle (zext_toNat o) hreg
    simp only [effAddr, addrNat, dCycle_cpu, linear_byte, hp]
  | dpindly o =>
    have hp := readPointer24_dpa hs.dCycle (zext_toNat o) hreg
    simp only [effAddr, addrNat, readPointer24_cpu, dCycle_cpu, linear_indexed_byte, hp]
  | abs o => simp only [effAddr, addrNat, linear_byte, long_toNat]
  | absx o | absy o => simp only [effAddr, addrNat, pCycle_cpu, linear_indexed_byte, long_toNat]
  | long o => simp only [effAddr, addrNat, linear_byte]
  | longx o => simp only [effAddr, addrNat, linear_indexed_byte]
  | sr o => simp only [effAddr, addrNat, hs.idle.sra, sra_byte, stackNat]
  | srindy o =>
    have hp := readPointer16_sra hs.idle hreg
    simp only [effAddr, addrNat, hs.idle.sra, readPointer16_cpu, idle_cpu, linear_indexed_byte, long_toNat, hp,
      stackNat]

end Sys2Proof.Machine
end

section
/-! PROOFS. What the CPU's cycles leave of memory and of the special registers while the DMA controller is at rest
(00_scope.md R11; 20_memory.md R110; 45_dma_hdma.md R441). -/

namespace Sys2Proof.Machine

/-! ### The special registers -/

/-- A channel's registers and its bits of MDMAEN and HDMAEN. -/
def Channel.special (c : Channel) : (Byte × Byte × Word × Byte × Word × Byte × Word × Byte × Byte) × Bool × Bool :=
  (c.registers, c.dmaEnabled, c.hdmaEnabled)

/-- The interrupt registers that only software writes. -/
def Intr.special (t : Intr) : Bool × Bool × Bool × Bool × BitVec 9 × BitVec 9 × Word × Bool :=
  (t.nmi.valid, t.irq.valid, t.virqEn, t.hirqEn, t.htime, t.vtime, t.interruptVector, t.resetPending)

/-- The joypads' strobe and enable, and the host's words. -/
def Joypad.special (j : Joypad) : Bool × Bool × Word × Word := (j.strobe, j.autojoyEn, j.pad0, j.pad1)

/-- The operands written to the multiply/divide unit. -/
def Alu.special (u : Alu) : Byte × Byte × Word × Byte := (u.wrmpya, u.wrmpyb, u.wrdiv, u.wrdivb)

theorem sameSpecial_iff (s t : State) :
    SameSpecial s t ↔ t.io = s.io ∧ t.params = s.params ∧ t.bus.maps = s.bus.maps ∧ t.bus.mmio = s.bus.mmio ∧
      t.intr.special = s.intr.special ∧ t.joy.special = s.joy.special ∧ t.alu.special = s.alu.special ∧
      ∀ n : Fin 8, (t.ch n).special = (s.ch n).special := by
  simp only [SameSpecial, Intr.special, Joypad.special, Alu.special, Channel.special, Prod.mk.injEq, and_assoc]

theorem SameSpecial.refl (s : State) : SameSpecial s s := by simp [sameSpecial_iff]

theorem SameSpecial.trans {s t u : State} (h : SameSpecial s t) (k : SameSpecial t u) : SameSpecial s u := by
  rw [sameSpecial_iff] at *
  obtain ⟨hio, hparams, hmaps, hmmio, hintr, hjoy, halu, hch⟩ := h
  obtain ⟨kio, kparams, kmaps, kmmio, kintr, kjoy, kalu, kch⟩ := k
  exact ⟨kio.trans hio, kparams.trans hparams, kmaps.trans hmaps, kmmio.trans hmmio, kintr.trans hintr, kjoy.trans hjoy,
    kalu.trans halu, fun n => (kch n).trans (hch n)⟩

/-! Time writes the interrupt units, the joypads and the channels only. -/

theorem Timeless.sameSpecial {s t : State} (h : Timeless s t) (hintr : t.intr.special = s.intr.special)
    (hjoy : t.joy.special = s.joy.special) (hch : ∀ n : Fin 8, (t.ch n).special = (s.ch n).special) :
    SameSpecial s t :=
  (sameSpecial_iff s t).2
    ⟨h.io, h.params, by rw [h.bus], by rw [h.bus], hintr, hjoy, by rw [h.alu], hch⟩

theorem Intr.raster_special (t : Intr) (h v : Nat) : (t.raster h v).special = t.special := by
  unfold Intr.raster IntSource.raiseIrq
  split
  · split <;> rfl
  · rfl

theorem IntSource.raiseNmi_valid (x : IntSource) : x.raiseNmi.valid = x.valid := by
  unfold IntSource.raiseNmi
  split <;> rfl

theorem IntSource.poll_valid (n : Nat) (x : IntSource) : (x.poll n).valid = x.valid := by
  have hhold : x.pollHold.valid = x.valid := by
    unfold IntSource.pollHold
    split <;> rfl
  rw [← hhold]
  unfold IntSource.poll IntSource.pollEdge
  split
  · split <;> rfl
  · rfl

theorem Intr.takeExtIrq_special (attached : Bool) (t : Intr) : (t.takeExtIrq attached).special = t.special := by
  unfold Intr.takeExtIrq
  split <;> rfl

theorem Intr.rearm_special (levelMode : Bool) (t : Intr) : (t.rearm levelMode).special = t.special := by
  unfold Intr.rearm
  dsimp only
  split <;> rfl

theorem Intr.poll_special (p : Params) (attached maskI : Bool) (t : Intr) :
    (t.poll p attached maskI).special = t.special := by
  have hrearm : ((t.takeExtIrq attached).rearm p.irqLevelMode).special = t.special :=
    (Intr.rearm_special _ _).trans (Intr.takeExtIrq_special _ _)
  rw [← hrearm]
  simp only [Intr.poll, Intr.special, IntSource.poll_valid]

theorem Joypad.autoPoll_special (j : Joypad) : j.autoPoll.special = j.special := by
  unfold Joypad.autoPoll
  split <;> rfl

theorem Alu.tick_special (u : Alu) : u.tick.special = u.special := by
  have hmpy : u.tickMpy.special = u.special := by
    unfold Alu.tickMpy
    split
    · rfl
    · dsimp only
      split <;> rfl
  rw [← hmpy]
  unfold Alu.tick Alu.tickDiv Alu.postQuotient
  split
  · rfl
  · dsimp only
    split
    · split <;> rfl
    · rfl

theorem eventRefresh_sameSpecial (s : State) : SameSpecial s (eventRefresh s) := by
  unfold eventRefresh
  split
  · exact .refl s
  · exact .refl s

theorem eventHdmaInit_sameSpecial (s : State) : SameSpecial s (eventHdmaInit s) := by
  have hch : ∀ n : Fin 8, (mapChannels Channel.frameStart s.dma.channels)[n].special = (s.ch n).special := by
    intro n
    rw [mapChannels_get]
    rfl
  unfold eventHdmaInit
  split
  · dsimp only
    split
    · exact (sameSpecial_iff s _).2 ⟨rfl, rfl, rfl, rfl, rfl, rfl, rfl, hch⟩
    · exact (sameSpecial_iff s _).2 ⟨rfl, rfl, rfl, rfl, rfl, rfl, rfl, hch⟩
  · exact .refl s

theorem eventHdmaRun_sameSpecial (s : State) : SameSpecial s (eventHdmaRun s) := by
  unfold eventHdmaRun
  split
  · dsimp only
    split
    · exact .refl s
    · exact .refl s
  · exact .refl s

theorem eventNmi_sameSpecial (s : State) : SameSpecial s (eventNmi s) := by
  refine (eventNmi_timeless s).sameSpecial ?_ ?_ fun n => ?_
  all_goals
    unfold eventNmi
    split
  all_goals simp only [Intr.special, IntSource.raiseNmi_valid, State.ch]

theorem eventAutojoy_sameSpecial (s : State) : SameSpecial s (eventAutojoy s) := by
  refine (eventAutojoy_timeless s).sameSpecial ?_ ?_ fun n => ?_
  all_goals
    unfold eventAutojoy
    split
  all_goals simp only [Joypad.autoPoll_special, State.ch]

theorem eventFrameStart_sameSpecial (s : State) : SameSpecial s (eventFrameStart s) := by
  unfold eventFrameStart
  split
  · exact .refl s
  · exact .refl s

theorem clockBare_sameSpecial (s : State) : SameSpecial s (clockBare s) := by
  have hadvance : SameSpecial s (advance s) := .refl s
  have hraster : ∀ u, SameSpecial u (rasterCompare u) := fun u =>
    (sameSpecial_iff u _).2 ⟨rfl, rfl, rfl, rfl, Intr.raster_special _ _ _, rfl, rfl, fun _ => rfl⟩
  exact hadvance.trans <| (eventRefresh_sameSpecial _).trans <| (eventHdmaInit_sameSpecial _).trans <|
    (eventHdmaRun_sameSpecial _).trans <| (eventNmi_sameSpecial _).trans <| (eventAutojoy_sameSpecial _).trans <|
    (eventFrameStart_sameSpecial _).trans (hraster _)

theorem iterate_sameSpecial {f : State → State} (hf : ∀ s, SameSpecial s (f s)) (n : Nat) (s : State) :
    SameSpecial s (iterate f n s) :=
  iterate_keeps (P := SameSpecial s) (fun u hu => hu.trans (hf u)) n s (.refl s)

theorem clock_sameSpecial (s : State) : SameSpecial s (clock s) := by
  unfold clock
  split
  · exact (clockBare_sameSpecial s).trans (iterate_sameSpecial clockBare_sameSpecial _ _)
  · exact clockBare_sameSpecial s

/-- The passing of time writes no special register. -/
theorem spend_sameSpecial (k : Nat) (s : State) : SameSpecial s (spend k s) := iterate_sameSpecial clock_sameSpecial k s

theorem poll_sameSpecial (s : State) : SameSpecial s (poll s) :=
  (sameSpecial_iff s _).2 ⟨rfl, rfl, rfl, rfl, Intr.poll_special _ _ _ _, rfl, rfl, fun _ => rfl⟩

theorem aluTick_sameSpecial (s : State) : SameSpecial s (aluTick s) :=
  (sameSpecial_iff s _).2 ⟨rfl, rfl, rfl, rfl, rfl, rfl, Alu.tick_special _, fun _ => rfl⟩

theorem endCycle_sameSpecial {s : State} (h : Quiet s) (busy : Bool) : SameSpecial s (endCycle busy s) := by
  rw [endCycle_quiet h]
  cases busy with
  | false => exact poll_sameSpecial s
  | true => exact (aluTick_sameSpecial s).trans (poll_sameSpecial _)

/-! Nor does an access to an address that is no register. -/

theorem busRead_of_noRegister {s : State} {a : Addr} (h : NoRegister s a) :
    busRead a s = (byteOr s s.bus.mdr a, setMdr (byteOr s s.bus.mdr a) s) := by
  unfold busRead
  split
  next hm => simp [NoRegister, hm, Target.isRegister] at h
  next => rfl

theorem busWrite_of_noRegister {s : State} {a : Addr} (h : NoRegister s a) (v : Byte) :
    busWrite a v s = setMdr v { s with bus := s.bus.store v (s.bus.resolve a) } := by
  unfold busWrite
  split
  next hm => simp [NoRegister, hm, Target.isRegister] at h
  next => rfl

theorem busRead_sameSpecial {s : State} {a : Addr} (h : NoRegister s a) : SameSpecial s (busRead a s).2 := by
  rw [busRead_of_noRegister h]
  exact .refl s

theorem busWrite_sameSpecial {s : State} {a : Addr} (h : NoRegister s a) (v : Byte) :
    SameSpecial s (busWrite a v s) := by
  rw [busWrite_of_noRegister h, sameSpecial_iff]
  cases s.bus.resolve a <;> exact ⟨rfl, rfl, rfl, rfl, rfl, rfl, rfl, fun _ => rfl⟩

theorem idle_sameSpecial {s : State} (h : Quiet s) : SameSpecial s (idle s) := by
  rw [idle_quiet h]
  exact (spend_sameSpecial _ s).trans (endCycle_sameSpecial (quiet_spend h _) _)

theorem read8_sameSpecial {s : State} (h : Quiet s) {a : Addr} (ha : NoRegister s a) : SameSpecial s (read8 a s).2 := by
  have hquiet : Quiet (busRead a s).2 := quiet_of_dma h (busRead_dma a s)
  rw [read8_quiet h]
  exact (busRead_sameSpecial ha).trans <| (spend_sameSpecial _ _).trans (endCycle_sameSpecial (quiet_spend hquiet _) _)

theorem write8_sameSpecial {s : State} (h : Quiet s) {a : Addr} (ha : NoRegister s a) (v : Byte) :
    SameSpecial s (write8 a v s) := by
  have hquiet : Quiet (busWrite a v s) := quiet_of_dma h (busWrite_dma ha v)
  rw [write8_quiet h]
  exact (busWrite_sameSpecial ha v).trans <| (spend_sameSpecial _ _).trans <|
    endCycle_sameSpecial (quiet_spend hquiet _) _

/-! ### Stored bytes -/

theorem storesOf_append_singleton (b : Bus) (l : List (Addr × Byte)) (a : Addr) (v : Byte) :
    storesOf b (l ++ [(a, v)]) = (storesOf b l).store v ((storesOf b l).resolve a) := by
  induction l generalizing b with
  | nil => rfl
  | cons p l ih => exact ih _

theorem storesOf_resolve (b : Bus) (l : List (Addr × Byte)) (a : Addr) : (storesOf b l).resolve a = b.resolve a := by
  induction l generalizing b with
  | nil => rfl
  | cons p l ih => rw [storesOf, ih, store_resolve]

/-- A store neither reads nor writes the open-bus latch. -/
theorem store_setMdr (b : Bus) (m v : Byte) (t : Target) :
    { b with mdr := m }.store v t = { b.store v t with mdr := m } := by
  cases t <;> rfl

/-- R110: an address that resolves to none of the stored ones reads as before. -/
theorem storesOf_byteAt_of_ne {b : Bus} (hok : b.memoryOk = true) {l : List (Addr × Byte)} {a : Addr}
    (hne : ∀ p ∈ l, b.resolve a ≠ b.resolve p.1) : (storesOf b l).byteAt a = b.byteAt a := by
  induction l generalizing b with
  | nil => rfl
  | cons p l ih =>
    simp only [List.forall_mem_cons] at hne
    obtain ⟨hp, hl⟩ := hne
    have hrest : ∀ q ∈ l, (b.store p.2 (b.resolve p.1)).resolve a ≠ (b.store p.2 (b.resolve p.1)).resolve q.1 := by
      simpa only [store_resolve] using hl
    rw [storesOf, ih (store_memoryOk p.2 p.1 hok) hrest, Bus.byteAt, store_resolve, stored_store_of_ne hok hp]
    rfl

/-! ### A sequence of cycles -/

open Sys2Proof.Claims

/-- What s, with the controller at rest, becomes by changes of the CPU's registers and by CPU cycles that read at `reads`
and store `stores`, each in this order, at addresses that are no registers: the controller is still at rest, memory is
s's with the bytes stored, and no special register differs unless one is among the addresses read. -/
structure Touches (s : State) (reads : List Addr) (stores : List (Addr × Byte)) (t : State) : Prop where
  quiet : Quiet t
  bus : t.bus = { storesOf s.bus stores with mdr := t.bus.mdr }
  special : (∀ a ∈ reads, NoRegister s a) → SameSpecial s t

namespace Touches

theorem refl {s : State} (h : Quiet s) : Touches s [] [] s := ⟨h, rfl, fun _ => .refl s⟩

section
variable {s t : State} {reads : List Addr} {stores : List (Addr × Byte)} (h : Touches s reads stores t)
include h

theorem noRegister_iff (a : Addr) : NoRegister t a ↔ NoRegister s a := by
  have hresolve : t.bus.resolve a = s.bus.resolve a := by
    rw [h.bus, ← storesOf_resolve s.bus stores a]
    rfl
  rw [NoRegister, NoRegister, hresolve]

theorem mapCpu (f : Cpu → Cpu) : Touches s reads stores (t.mapCpu f) := ⟨h.quiet, h.bus, h.special⟩

theorem idle : Touches s reads stores (idle t) where
  quiet := quiet_idle h.quiet
  bus := by
    rw [idle_bus h.quiet]
    exact h.bus
  special hreg := (h.special hreg).trans (idle_sameSpecial h.quiet)

theorem idles (n : Nat) : Touches s reads stores (idles n t) :=
  iterate_keeps (P := Touches s reads stores) (fun _ hu => hu.idle) n t h

theorem read8 (a : Addr) : Touches s (reads ++ [a]) stores (read8 a t).2 where
  quiet := quiet_read8 h.quiet a
  bus := by
    rw [read8_bus h.quiet, h.bus]
  special hreg := by
    simp only [List.forall_mem_append, List.forall_mem_singleton] at hreg
    exact (h.special hreg.1).trans (read8_sameSpecial h.quiet ((h.noRegister_iff a).2 hreg.2))

theorem write8 {a : Addr} (ha : NoRegister s a) (v : Byte) : Touches s reads (stores ++ [(a, v)]) (write8 a v t) where
  quiet := quiet_write8 h.quiet ((h.noRegister_iff a).2 ha) v
  bus := by
    rw [write8_bus h.quiet ((h.noRegister_iff a).2 ha), h.bus, storesOf_append_singleton, store_setMdr]
    rfl
  special hreg := (h.special hreg).trans (write8_sameSpecial h.quiet ((h.noRegister_iff a).2 ha) v)

theorem stores_of_memoryOk (hok : s.bus.memoryOk = true) : Stores s t stores := by
  have hbyte : ∀ a, t.bus.byteAt a = (storesOf s.bus stores).byteAt a := fun a => by
    rw [h.bus]
    rfl
  exact ⟨fun a hne => (hbyte a).trans (storesOf_byteAt_of_ne hok hne), hbyte⟩

theorem dCycle : Touches s reads stores (dCycle t) := by
  unfold Machine.dCycle
  split
  · exact h
  · exact h.idle

theorem pCycle (acc : Access) (b i : Word) : Touches s reads stores (pCycle acc b i t) := by
  unfold Machine.pCycle
  split
  · exact h
  · exact h.idle

end

/-- R110: storage answers as in s, an unmapped address with the last byte on the bus. -/
theorem read8_value {s t : State} {reads : List Addr} (h : Touches s reads [] t) {a : Addr} (ha : NoRegister s a) :
    (Machine.read8 a t).1 = busByte s.bus t.bus.mdr a := by
  rw [Machine.read8_value h.quiet, busRead_value ((h.noRegister_iff a).2 ha), byteOr, h.bus]
  rfl

theorem read8_mdr {s t : State} {reads : List Addr} {stores : List (Addr × Byte)} (h : Touches s reads stores t)
    (a : Addr) : (Machine.read8 a t).2.bus.mdr = (Machine.read8 a t).1 := by rw [read8_bus h.quiet]

end Touches

/-! ### Two bytes read low byte first -/

/-- A word read at two addresses, low byte first, with the registers changed by f between the reads: what pointer reads,
vector reads and 16-bit pulls share (00_scope.md R12; 30_encoding.md R175, R178). -/
def readPair (f : Cpu → Cpu) (a0 a1 : Addr) (s : State) : Word × State :=
  let (l, s) := read8 a0 s
  let (h, s) := read8 a1 (s.mapCpu f)
  (word h l, s)

theorem readPointer16_eq (ea : EA) (s : State) : readPointer16 ea s = readPair id (ea.byte 0) (ea.byte 1) s := rfl

@[simp] theorem readPair_cpu (f : Cpu → Cpu) (a0 a1 : Addr) (s : State) : (readPair f a0 a1 s).2.cpu = f s.cpu := by
  simp [readPair]

theorem Touches.readPair {s t : State} {reads : List Addr} {stores : List (Addr × Byte)} (h : Touches s reads stores t)
    (f : Cpu → Cpu) (a0 a1 : Addr) : Touches s (reads ++ [a0, a1]) stores (readPair f a0 a1 t).2 := by
  have hreads := ((h.read8 a0).mapCpu f).read8 a1
  rw [List.append_assoc] at hreads
  exact hreads

theorem Touches.readPair_toNat {s t : State} {reads : List Addr} (h : Touches s reads [] t) (f : Cpu → Cpu)
    {a0 a1 : Addr} (h0 : NoRegister s a0) (h1 : NoRegister s a1) :
    (Machine.readPair f a0 a1 t).1.toNat =
      (busByte s.bus t.bus.mdr a0).toNat + 256 * (busByte s.bus (busByte s.bus t.bus.mdr a0) a1).toNat := by
  show (word (Machine.read8 a1 ((Machine.read8 a0 t).2.mapCpu f)).1 (Machine.read8 a0 t).1).toNat = _
  rw [word_toNat, ((h.read8 a0).mapCpu f).read8_value h1, mapCpu_bus, h.read8_mdr, h.read8_value h0]

/-! ### Operands at an effective address -/

namespace Touches
variable {s t : State} {reads : List Addr} {stores : List (Addr × Byte)} (h : Touches s reads stores t)
include h

theorem readPointer16 (ea : EA) : Touches s (reads ++ [ea.byte 0, ea.byte 1]) stores (readPointer16 ea t).2 :=
  h.readPair id _ _

theorem readPointer24 (ea : EA) :
    Touches s (reads ++ [ea.byte 0, ea.byte 1, ea.byte 2]) stores (readPointer24 ea t).2 := by
  have hreads := (h.readPointer16 ea).read8 (ea.byte 2)
  rw [List.append_assoc] at hreads
  exact hreads

theorem readEA (w : Width) (ea : EA) : Touches s (reads ++ dataBytes w ea) stores (readEA w ea t).2 := by
  cases w with
  | w8 => exact h.read8 _
  | w16 => exact h.readPointer16 ea

theorem writeEA {w : Width} {ea : EA} {v : Word} (hreg : ∀ p ∈ storedAt w ea v, NoRegister s p.1) :
    Touches s reads (stores ++ storedAt w ea v) (writeEA w ea v t) := by
  cases w with
  | w8 => exact h.write8 (hreg _ (List.mem_singleton_self _)) _
  | w16 =>
    simp only [storedAt, List.forall_mem_cons] at hreg
    obtain ⟨hlow, hhigh, -⟩ := hreg
    have hstores := (h.write8 hlow (lo v)).write8 hhigh (hi v)
    rw [List.append_assoc] at hstores
    exact hstores

end Touches

/-! ### The frames of the statements -/

theorem readsOnly_of_touches {s t : State} {reads : List Addr} (h : Quiet s → Touches s reads [] t) :
    ReadsOnly s t reads := by
  intro hquiet
  have ht := h hquiet
  refine ⟨fun a => ?memory, fun hreg => ⟨ht.special hreg, ht.quiet⟩⟩
  rw [ht.bus]
  rfl

theorem writesTo_of_touches {s t : State} {reads : List Addr} {l : List (Addr × Byte)}
    (h : Quiet s → (∀ a ∈ reads, NoRegister s a) → (∀ p ∈ l, NoRegister s p.1) → Touches s reads l t) :
    WritesTo s t reads l := by
  intro hquiet hok hreads hstores
  have ht := h hquiet hreads hstores
  exact ⟨ht.stores_of_memoryOk hok, ht.special hreads, ht.quiet⟩

end Sys2Proof.Machine
end

section
/-! PROOFS. Register writes of a width and the status byte, as numbers (00_scope.md R14; 10_state.md R31-R35;
40_load_store_transfer.md R220). -/

namespace Sys2Proof.Machine
open Sys2Proof.Claims

theorem trunc_toNat (w : Width) (v : Word) : (trunc w v).toNat = v.toNat % modulus w := by
  cases w with
  | w8 => exact (zext_toNat _).trans (lo_toNat v)
  | w16 => exact (Nat.mod_eq_of_lt v.isLt).symm

/-- R32. -/
theorem trunc_eq_idx (w : Width) (v : Word) : trunc w v = idx w v.toNat := by
  rw [idx, ← trunc_toNat, BitVec.ofNat_toNat, BitVec.setWidth_eq]

/-- R31. -/
theorem setLow_eq_accWith (w : Width) (a v : Word) : setLow w a v = accWith w a v.toNat := by
  cases w with
  | w8 =>
    apply BitVec.eq_of_toNat_eq
    have := a.isLt
    simp only [setLow, accWith, word_toNat, hi_toNat, lo_toNat, BitVec.toNat_ofNat]
    omega
  | w16 => rw [setLow_w16, accWith, BitVec.ofNat_toNat, BitVec.setWidth_eq]

theorem msb_eq (w : Width) (v : Word) : msb w v = decide (modulus w / 2 ≤ v.toNat % modulus w) := by
  have := v.isLt
  rw [msb, BitVec.getLsbD, Nat.testBit_eq_decide_div_mod_eq, decide_eq_decide]
  cases w <;> simp only [Width.bits, modulus] <;> omega

theorem trunc_eq_zero_iff (w : Width) (v : Word) : trunc w v = 0 ↔ v.toNat % modulus w = 0 := by
  rw [← trunc_toNat, ← BitVec.toNat_inj]
  rfl

/-- R220. -/
theorem setNZ_eq_nz (w : Width) (v : Word) (p : Status) : setNZ w v p = nz w v.toNat p := by
  simp only [setNZ, nz, msb_eq, trunc_eq_zero_iff]

theorem setA_eq (w : Width) (v : Word) (c : Cpu) : c.setA w v = { c with a := accWith w c.a v.toNat } := by
  rw [Cpu.setA, setLow_eq_accWith]

theorem setX_eq (v : Word) (c : Cpu) : c.setX v = { c with x := idx c.xw v.toNat } := by rw [Cpu.setX, trunc_eq_idx]

theorem setY_eq (v : Word) (c : Cpu) : c.setY v = { c with y := idx c.xw v.toNat } := by rw [Cpu.setY, trunc_eq_idx]

end Sys2Proof.Machine
end

section
/-! PROOFS. The value a reading instruction takes, and what loads and stores do (40_load_store_transfer.md R220-R231;
30_encoding.md R173, R177; 20_memory.md R110). -/

namespace Sys2Proof.Machine
open Sys2Proof.Claims

/-! ### Operand reads and writes with the controller at rest -/

theorem effAddr_touches {s : State} (h : Quiet s) (acc : Access) (m : Mode) :
    Touches s (pointerBytes s m) [] (effAddr acc m s).2 := by
  have hs : Touches s [] [] s := .refl h
  have hsra : ∀ o, (idle s).sra o = s.sra o := (AfterReads.refl h).idle.sra
  cases m with
  | imm _ | abs _ | long _ | longx _ => exact hs
  | dp _ => exact hs.dCycle
  | dpx _ | dpy _ => exact hs.dCycle.idle
  | absx _ | absy _ => exact hs.pCycle _ _ _
  | sr _ => exact hs.idle
  | dpind o =>
    simp only [effAddr, dCycle_cpu]
    exact hs.dCycle.readPointer16 _
  | dpxind o =>
    simp only [effAddr, idle_cpu, dCycle_cpu]
    exact hs.dCycle.idle.readPointer16 _
  | dpindy o =>
    simp only [effAddr, dCycle_cpu]
    exact (hs.dCycle.readPointer16 _).pCycle _ _ _
  | dpindl o | dpindly o =>
    simp only [effAddr, dCycle_cpu]
    exact hs.dCycle.readPointer24 _
  | srindy o =>
    simp only [effAddr, hsra]
    exact (hs.idle.readPointer16 _).idle

theorem eaRead_of_memory {m : Mode} (h : isImm m = false) (w : Width) (s : State) :
    eaRead w m s = readEA w (effAddr .read m s).1 (effAddr .read m s).2 := by
  cases m with
  | imm _ => cases h
  | _ => simp only [eaRead]

theorem operandBytes_of_memory {m : Mode} (h : isImm m = false) (acc : Access) (w : Width) (s : State) :
    operandBytes acc w m s = pointerBytes s m ++ dataBytes w (effAddr acc m s).1 := by
  cases m with
  | imm _ => cases h
  | _ => rfl

theorem eaRead_touches {s : State} (h : Quiet s) (w : Width) (m : Mode) :
    Touches s (operandBytes .read w m s) [] (eaRead w m s).2 := by
  cases hm : isImm m with
  | true =>
    cases m with
    | imm _ => exact .refl h
    | _ => cases hm
  | false =>
    rw [eaRead_of_memory hm, operandBytes_of_memory hm]
    exact (effAddr_touches h .read m).readEA w _

/-- R220: a reading instruction reads its operand and moves nothing. -/
theorem readOperand_readsOnly (w : Width) (m : Mode) (op : Width → Word → Cpu → Cpu) (s : State) :
    ReadsOnly s (readOperand w m op s) (operandBytes .read w m s) :=
  readsOnly_of_touches fun h => (eaRead_touches h w m).mapCpu _

theorem readOperand_becomes {i : Instr} {w : Width} {m : Mode} {op : Width → Word → Cpu → Cpu} {s : State} {d : Cpu}
    (hexec : exec i s = .next (readOperand w m op s)) (hop : op w (eaRead w m s).1 s.cpu = d) :
    ∃ t, exec i s = .next t ∧ ReadsOnly s t (operandBytes .read w m s) ∧ t.cpu = d :=
  ⟨_, hexec, readOperand_readsOnly w m op s, (readOperand_cpu w m op s).trans hop⟩

theorem storeOperand_writesTo (w : Width) (m : Mode) (v : Word) (s : State) :
    WritesTo s (storeOperand w m v s) (pointerBytes s m) (storedAt w (effAddr .store m s).1 v) :=
  writesTo_of_touches fun h _ hstores => (effAddr_touches h .store m).writeEA hstores

/-! ### The operand's value -/

/-- The value of the bytes at an effective address, low byte first; an unmapped byte reads as the last byte on the bus, at
first `mdr` (R110, R177). -/
def eaValue (b : Bus) (mdr : Byte) (ea : EA) : Width → Nat
  | .w8 => (busByte b mdr (ea.byte 0)).toNat
  | .w16 => (busByte b mdr (ea.byte 0)).toNat + 256 * (busByte b (busByte b mdr (ea.byte 0)) (ea.byte 1)).toNat

theorem readEA_toNat {s t : State} {reads : List Addr} (h : Touches s reads [] t) {w : Width} {ea : EA}
    (hreg : ∀ a ∈ dataBytes w ea, NoRegister s a) : (readEA w ea t).1.toNat = eaValue s.bus t.bus.mdr ea w := by
  cases w with
  | w8 =>
    have hlow : (read8 (ea.byte 0) t).1 = busByte s.bus t.bus.mdr (ea.byte 0) :=
      h.read8_value (hreg _ (List.mem_singleton_self _))
    exact (zext_toNat _).trans (congrArg _ hlow)
  | w16 =>
    simp only [dataBytes, List.forall_mem_cons] at hreg
    obtain ⟨h0, h1, -⟩ := hreg
    exact h.readPair_toNat id h0 h1

/-- R173, R220. -/
theorem operand_imm (w : Width) (v : Imm) (s : State) :
    operand w (.imm v) s =
      match v with
      | .b8 b => b.toNat
      | .w16 n => low w n := by
  have htrunc : operand w (.imm v) s = (Imm.value v).toNat % modulus w := trunc_toNat w (Imm.value v)
  rw [htrunc]
  cases v with
  | w16 n => rfl
  | b8 b =>
    have hb : b.toNat < modulus w := by
      have := b.isLt
      cases w <;> simp only [modulus, Width.bits] <;> omega
    exact (congrArg (· % modulus w) (zext_toNat b)).trans (Nat.mod_eq_of_lt hb)

theorem operand_of_memory {m : Mode} (hm : isImm m = false) {s : State} (h : Quiet s) {w : Width}
    (hreg : ∀ a ∈ operandBytes .read w m s, NoRegister s a) :
    operand w m s = eaValue s.bus (effAddr .read m s).2.bus.mdr (effAddr .read m s).1 w := by
  rw [operandBytes_of_memory hm, List.forall_mem_append] at hreg
  rw [operand, eaRead_of_memory hm, readEA_toNat (effAddr_touches h .read m) hreg.2]

theorem pCycle_bus {s : State} (h : Quiet s) (acc : Access) (b i : Word) : (pCycle acc b i s).bus = s.bus := by
  unfold pCycle
  split
  · rfl
  · exact idle_bus h

/-- Settles O18: an immediate is its own value (`operand_imm`); in memory the bytes read at the effective address are those
in memory or on the bus (`operand_of_memory`), and an absolute mode reads none before them. -/
theorem operandValue : Obligations.OperandValue := by
  unfold Obligations.OperandValue
  refine ⟨operand_imm, fun w m s hm hquiet hreg => ⟨?mdr, ?value⟩⟩
  case mdr =>
    rintro o (rfl | rfl | rfl)
    · rfl
    · exact congrArg Bus.mdr (pCycle_bus hquiet _ _ _)
    · exact congrArg Bus.mdr (pCycle_bus hquiet _ _ _)
  case value =>
    rw [operand_of_memory hm hquiet hreg]
    cases w with
    | w8 => rfl
    | w16 => rfl

/-! ### Loads -/

theorem exec_of_ldaMode {i : Instr} {m : Mode} (h : ldaMode i = some m) (s : State) :
    exec i s = .next (readOperand s.cpu.mw m opLda s) := by
  unfold ldaMode at h
  split at h <;> cases h <;> rfl

theorem exec_of_ldxMode {i : Instr} {m : Mode} (h : ldxMode i = some m) (s : State) :
    exec i s = .next (readOperand s.cpu.xw m opLdx s) := by
  unfold ldxMode at h
  split at h <;> cases h <;> rfl

theorem exec_of_ldyMode {i : Instr} {m : Mode} (h : ldyMode i = some m) (s : State) :
    exec i s = .next (readOperand s.cpu.xw m opLdy s) := by
  unfold ldyMode at h
  split at h <;> cases h <;> rfl

theorem opLda_eq (w : Width) (v : Word) (c : Cpu) :
    opLda w v c = { c with a := accWith w c.a v.toNat, p := nz w v.toNat c.p } := by
  rw [opLda, setA_eq, setNZ_eq_nz]

theorem opLdx_eq (w : Width) (v : Word) (c : Cpu) :
    opLdx w v c = { c with x := idx c.xw v.toNat, p := nz w v.toNat c.p } := by
  rw [opLdx, setX_eq, setNZ_eq_nz]

theorem opLdy_eq (w : Width) (v : Word) (c : Cpu) :
    opLdy w v c = { c with y := idx c.xw v.toNat, p := nz w v.toNat c.p } := by
  rw [opLdy, setY_eq, setNZ_eq_nz]

/-- Settles O19: every form is `readOperand` with its mnemonic's operation, which moves nothing and writes the register
and the flags of the operand. -/
theorem loadResults : Obligations.LoadResults := by
  unfold Obligations.LoadResults
  refine fun i m s => ⟨fun h => ?lda, fun h => ?ldx, fun h => ?ldy⟩
  case lda => exact readOperand_becomes (exec_of_ldaMode h s) (opLda_eq _ _ _)
  case ldx => exact readOperand_becomes (exec_of_ldxMode h s) (opLdx_eq _ _ _)
  case ldy => exact readOperand_becomes (exec_of_ldyMode h s) (opLdy_eq _ _ _)

/-! ### Stores -/

theorem exec_of_staMode {i : Instr} {m : Mode} (h : staMode i = some m) (s : State) :
    exec i s = .next (storeOperand s.cpu.mw m s.cpu.a s) := by
  unfold staMode at h
  split at h <;> cases h <;> rfl

theorem exec_of_stxMode {i : Instr} {m : Mode} (h : stxMode i = some m) (s : State) :
    exec i s = .next (storeOperand s.cpu.xw m s.cpu.x s) := by
  unfold stxMode at h
  split at h <;> cases h <;> rfl

theorem exec_of_styMode {i : Instr} {m : Mode} (h : styMode i = some m) (s : State) :
    exec i s = .next (storeOperand s.cpu.xw m s.cpu.y s) := by
  unfold styMode at h
  split at h <;> cases h <;> rfl

theorem exec_of_stzMode {i : Instr} {m : Mode} (h : stzMode i = some m) (s : State) :
    exec i s = .next (storeOperand s.cpu.mw m 0 s) := by
  unfold stzMode at h
  split at h <;> cases h <;> rfl

/-- Settles O26: every form is `storeOperand` of its register or of 0, which changes no register and stores the bytes at
the effective address (`storeOperand_writesTo`). -/
theorem storeResults : Obligations.StoreResults := by
  unfold Obligations.StoreResults
  refine fun i m s => ⟨fun h => ?sta, fun h => ?stx, fun h => ?sty, fun h => ?stz⟩
  case sta => exact ⟨_, exec_of_staMode h s, storeOperand_cpu _ _ _ _, storeOperand_writesTo _ _ _ _⟩
  case stx => exact ⟨_, exec_of_stxMode h s, storeOperand_cpu _ _ _ _, storeOperand_writesTo _ _ _ _⟩
  case sty => exact ⟨_, exec_of_styMode h s, storeOperand_cpu _ _ _ _, storeOperand_writesTo _ _ _ _⟩
  case stz => exact ⟨_, exec_of_stzMode h s, storeOperand_cpu _ _ _ _, storeOperand_writesTo _ _ _ _⟩

end Sys2Proof.Machine
end

section
/-! PROOFS. Register transfers, the stack instructions and block moves (00_scope.md R12; 10_state.md R34;
40_load_store_transfer.md R235-R269). -/

namespace Sys2Proof.Machine
open Sys2Proof.Claims

/-! ### Transfers -/

theorem implied_readsOnly (n : Nat) (f : Cpu → Cpu) (s : State) : ReadsOnly s (implied n f s) [] :=
  readsOnly_of_touches fun h => ((Touches.refl h).idles n).mapCpu f

theorem setS_eq (v : Word) (c : Cpu) :
    c.setS v = { c with s := if c.e then BitVec.ofNat 16 (0x0100 + v.toNat % 256) else v } := by
  have hpage : word 0x01 (lo v) = BitVec.ofNat 16 (0x0100 + v.toNat % 256) := by
    apply BitVec.eq_of_toNat_eq
    rw [page1_toNat, lo_toNat, BitVec.toNat_ofNat]
    omega
  rw [Cpu.setS, hpage]

theorem swapped_eq (v : Word) : word (lo v) (hi v) = BitVec.ofNat 16 (v.toNat % 256 * 256 + v.toNat / 256) := by
  apply BitVec.eq_of_toNat_eq
  have := v.isLt
  rw [word_toNat, lo_toNat, hi_toNat, BitVec.toNat_ofNat]
  omega

/-- An instruction that is `implied` leaves the registers its operation gives and moves nothing. -/
theorem implied_becomes {i : Instr} {n : Nat} {f : Cpu → Cpu} {s : State} {d : Cpu}
    (hexec : exec i s = .next (implied n f s)) (hf : f s.cpu = d) :
    ∃ t, exec i s = .next t ∧ ReadsOnly s t [] ∧ t.cpu = d :=
  ⟨_, hexec, implied_readsOnly n f s, (implied_cpu n f s).trans hf⟩

/-- Settles O29: every transfer is `implied`, and its operation writes the value at the register's width (`setA_eq`,
`setX_eq`, `setY_eq`, `setS_eq`) and its flags (`setNZ_eq_nz`). -/
theorem transferResults : Obligations.TransferResults := by
  unfold Obligations.TransferResults
  refine fun s => ⟨implied_becomes rfl ?tax, implied_becomes rfl ?tay, implied_becomes rfl ?txa, implied_becomes rfl ?tya,
    implied_becomes rfl ?txy, implied_becomes rfl ?tyx, implied_becomes rfl ?tsx, implied_becomes rfl (setS_eq _ _),
    implied_becomes rfl (setS_eq _ _), implied_becomes rfl ?tsc, implied_becomes rfl ?tcd, implied_becomes rfl ?tdc,
    implied_becomes rfl ?xba⟩
  case tax => rw [opTax, setX_eq, setNZ_eq_nz]
  case tay => rw [opTay, setY_eq, setNZ_eq_nz]
  case txa => rw [opTxa, setA_eq, setNZ_eq_nz]
  case tya => rw [opTya, setA_eq, setNZ_eq_nz]
  case txy => rw [opTxy, setY_eq, setNZ_eq_nz]
  case tyx => rw [opTyx, setX_eq, setNZ_eq_nz]
  case tsx => rw [opTsx, setX_eq, setNZ_eq_nz]
  case tsc => rw [opTsc, setNZ_eq_nz]
  case tcd => rw [opTcd, setNZ_eq_nz]
  case tdc => rw [opTdc, setNZ_eq_nz]
  case xba => rw [opXba, swapped_eq, setNZ_eq_nz, zext_toNat, hi_toNat]

/-! ### The stack pointer and its slots -/

theorem lo_add (v w : Word) : lo (v + w) = lo v + lo w := BitVec.setWidth_add v w (by decide)

theorem lo_sub (v w : Word) : lo (v - w) = lo v - lo w := by
  apply BitVec.eq_of_toNat_eq
  simp only [lo_toNat, BitVec.toNat_sub]
  omega

theorem lo_ofNat (k : Nat) : lo (BitVec.ofNat 16 k) = BitVec.ofNat 8 k := BitVec.setWidth_ofNat_of_le (by decide) k

theorem lo_one : lo 1 = 1 := rfl

/-- The registers after k pushes. S is forced into page 1 by a push, not before the first. -/
def Cpu.pushed (c : Cpu) : Nat → Cpu
  | 0 => c
  | k + 1 => { c with s := pushedS c (k + 1) }

/-- The registers after k pulls. -/
def Cpu.pulled (c : Cpu) : Nat → Cpu
  | 0 => c
  | k + 1 => { c with s := pulledS c (k + 1) }

/-- The registers after k pushes with the full S. -/
def Cpu.pushedFull (c : Cpu) (k : Nat) : Cpu := { c with s := c.s - BitVec.ofNat 16 k }

/-- The registers after k pulls with the full S. -/
def Cpu.pulledFull (c : Cpu) (k : Nat) : Cpu := { c with s := c.s + BitVec.ofNat 16 k }

theorem sub_ofNat_succ {n : Nat} (v : BitVec n) (k : Nat) :
    v - BitVec.ofNat n k - 1 = v - BitVec.ofNat n (k + 1) := by
  rw [BitVec.ofNat_add]
  exact sub_sub _ _ _

theorem add_ofNat_succ {n : Nat} (v : BitVec n) (k : Nat) :
    v + BitVec.ofNat n k + 1 = v + BitVec.ofNat n (k + 1) := by
  rw [BitVec.ofNat_add]
  exact BitVec.add_assoc _ _ _

theorem lo_pushed_s (c : Cpu) (k : Nat) : lo (c.pushed k).s = lo c.s - BitVec.ofNat 8 k := by
  cases k with
  | zero => exact (BitVec.sub_zero _).symm
  | succ k =>
    simp only [Cpu.pushed, pushedS]
    split
    · rw [lo_word]
    · rw [lo_sub, lo_ofNat]

theorem lo_pulled_s (c : Cpu) (k : Nat) : lo (c.pulled k).s = lo c.s + BitVec.ofNat 8 k := by
  cases k with
  | zero => exact (BitVec.add_zero _).symm
  | succ k =>
    simp only [Cpu.pulled, pulledS]
    split
    · rw [lo_word]
    · rw [lo_add, lo_ofNat]

theorem pushed_s_of_native {c : Cpu} (he : c.e = false) (k : Nat) : (c.pushed k).s = c.s - BitVec.ofNat 16 k := by
  cases k with
  | zero => exact (BitVec.sub_zero _).symm
  | succ k => simp [Cpu.pushed, pushedS, he]

theorem pulled_s_of_native {c : Cpu} (he : c.e = false) (k : Nat) : (c.pulled k).s = c.s + BitVec.ofNat 16 k := by
  cases k with
  | zero => exact (BitVec.add_zero _).symm
  | succ k => simp [Cpu.pulled, pulledS, he]

/-- R12, R34: the next push lowers S by one, within page 1 in emulation mode. -/
theorem setS_pushed (c : Cpu) (k : Nat) : (c.pushed k).setS ((c.pushed k).s - 1) = c.pushed (k + 1) := by
  have hset : ∀ v, (c.pushed k).setS v = { c with s := if c.e then word 0x01 (lo v) else v } := fun v => by
    cases k <;> rfl
  rw [hset, Cpu.pushed, pushedS]
  cases he : c.e with
  | true => simp only [if_true, lo_sub, lo_pushed_s, ← sub_ofNat_succ, lo_one]
  | false => simp only [Bool.false_eq_true, if_false, pushed_s_of_native he, sub_ofNat_succ]

/-- R12, R34: the next pull raises S by one, within page 1 in emulation mode. -/
theorem setS_pulled (c : Cpu) (k : Nat) : (c.pulled k).setS ((c.pulled k).s + 1) = c.pulled (k + 1) := by
  have hset : ∀ v, (c.pulled k).setS v = { c with s := if c.e then word 0x01 (lo v) else v } := fun v => by
    cases k <;> rfl
  rw [hset, Cpu.pulled, pulledS]
  cases he : c.e with
  | true => simp only [if_true, lo_add, lo_pulled_s, ← add_ofNat_succ, lo_one]
  | false => simp only [Bool.false_eq_true, if_false, pulled_s_of_native he, add_ofNat_succ]

theorem pushSlot_eq (c : Cpu) (k : Nat) : pushSlot c k = stackAddr (c.pushed k).s := by
  cases he : c.e with
  | false => rw [pushSlot, if_pos (.inl he), pushed_s_of_native he, stackAddr]
  | true =>
    cases k with
    | zero => rw [pushSlot, if_pos (.inr rfl), stackAddr, Cpu.pushed, BitVec.sub_zero]
    | succ k => simp [pushSlot, stackAddr, Cpu.pushed, pushedS, he]

theorem pullSlot_succ (c : Cpu) (k : Nat) : pullSlot c (k + 1) = stackAddr (c.pulled (k + 1)).s := by
  simp only [pullSlot, stackAddr, Cpu.pulled, pulledS]
  split <;> rfl

/-- R34: once the last stack access is over, SH is forced in emulation mode. -/
theorem setS_pushedFull (c : Cpu) (k : Nat) :
    (c.pushedFull k).setS (c.pushedFull k).s = { c with s := pushedS c k } := by
  simp only [Cpu.pushedFull, Cpu.setS, pushedS, lo_sub, lo_ofNat]

theorem setS_pulledFull (c : Cpu) (k : Nat) :
    (c.pulledFull k).setS (c.pulledFull k).s = { c with s := pulledS c k } := by
  simp only [Cpu.pulledFull, Cpu.setS, pulledS, lo_add, lo_ofNat]

/-! ### One push and one pull, in the registers c that the sequence began with -/

theorem mapCpu_eq_const (s : State) (f : Cpu → Cpu) {d : Cpu} (h : f s.cpu = d) : s.mapCpu f = s.mapCpu fun _ => d := by
  rw [State.mapCpu, State.mapCpu, h]

section
variable {t : State} {c : Cpu} {k : Nat}

theorem push8_eq (h : t.cpu = c.pushed k) (v : Byte) :
    push8 v t = (write8 (pushSlot c k) v t).mapCpu fun _ => c.pushed (k + 1) := by
  rw [push8, h, ← pushSlot_eq]
  exact mapCpu_eq_const _ _ (by rw [write8_cpu, h, setS_pushed])

theorem pull8_eq (h : t.cpu = c.pulled k) :
    pull8 t = read8 (pullSlot c (k + 1)) (t.mapCpu fun _ => c.pulled (k + 1)) := by
  rw [pull8, mapCpu_eq_const t _ (by rw [h, setS_pulled]), pullSlot_succ]
  rfl

theorem push8Full_eq (h : t.cpu = c.pushedFull k) (v : Byte) :
    push8Full v t = (write8 (fullPushSlot c k) v t).mapCpu fun _ => c.pushedFull (k + 1) := by
  have hcpu : ({ t.cpu with s := t.cpu.s - 1 } : Cpu) = c.pushedFull (k + 1) := by
    rw [h, Cpu.pushedFull, Cpu.pushedFull, ← sub_ofNat_succ]
  rw [push8Full, mapCpu_eq_const _ _ (by rw [write8_cpu, hcpu]), h]
  rfl

theorem pull8Full_eq (h : t.cpu = c.pulledFull k) :
    pull8Full t = read8 (fullPullSlot c (k + 1)) (t.mapCpu fun _ => c.pulledFull (k + 1)) := by
  have hcpu : ({ t.cpu with s := t.cpu.s + 1 } : Cpu) = c.pulledFull (k + 1) := by
    rw [h, Cpu.pulledFull, Cpu.pulledFull, ← add_ofNat_succ]
  rw [pull8Full, mapCpu_eq_const _ _ hcpu]
  rfl

theorem push8_pushed (h : t.cpu = c.pushed k) (v : Byte) : (push8 v t).cpu = c.pushed (k + 1) := by
  rw [push8_cpu, h, setS_pushed]

theorem pull8_pulled (h : t.cpu = c.pulled k) : (pull8 t).2.cpu = c.pulled (k + 1) := by
  rw [pull8_cpu, h, setS_pulled]

theorem push8Full_pushed (h : t.cpu = c.pushedFull k) (v : Byte) : (push8Full v t).cpu = c.pushedFull (k + 1) := by
  rw [push8Full_eq h, mapCpu_cpu]

theorem pull8Full_pulled (h : t.cpu = c.pulledFull k) : (pull8Full t).2.cpu = c.pulledFull (k + 1) := by
  rw [pull8Full_eq h, read8_cpu, mapCpu_cpu]

theorem cpu_pushedFull_zero (h : t.cpu = c) : t.cpu = c.pushedFull 0 := by rw [h, Cpu.pushedFull, BitVec.sub_zero]

theorem cpu_pulledFull_zero (h : t.cpu = c) : t.cpu = c.pulledFull 0 := by rw [h, Cpu.pulledFull, BitVec.add_zero]

end

/-! ### Pushes -/

theorem pushedAt_append_singleton (slot : Nat → Addr) (l : List Byte) (v : Byte) :
    pushedAt slot (l ++ [v]) = pushedAt slot l ++ [(slot l.length, v)] := by
  simp [pushedAt, List.zipIdx_append]

/-- The next byte of a push sequence goes to the next slot. -/
theorem Touches.pushAt {s t : State} {reads : List Addr} {slot : Nat → Addr} {l : List Byte}
    (h : Touches s reads (pushedAt slot l) t) (ha : NoRegister s (slot l.length)) (v : Byte) (f : Cpu → Cpu) :
    Touches s reads (pushedAt slot (l ++ [v])) ((Machine.write8 (slot l.length) v t).mapCpu f) := by
  rw [pushedAt_append_singleton]
  exact (h.write8 ha v).mapCpu f

theorem Touches.pushWordAt {s t : State} {reads : List Addr} {slot : Nat → Addr} {v : Word} (h : Touches s reads [] t)
    (hreg : ∀ p ∈ pushedAt slot (highFirst v), NoRegister s p.1) (f g : Cpu → Cpu) :
    Touches s reads (pushedAt slot (highFirst v))
      ((Machine.write8 (slot 1) (lo v) ((Machine.write8 (slot 0) (hi v) t).mapCpu f)).mapCpu g) := by
  have hhigh : NoRegister s (slot 0) := hreg (slot 0, hi v) List.mem_cons_self
  have hlow : NoRegister s (slot 1) := hreg (slot 1, lo v) (List.mem_cons_of_mem _ (List.mem_singleton_self _))
  exact Touches.pushAt (l := [hi v]) (Touches.pushAt (l := []) h hhigh _ f) hlow _ g

section
variable {s t : State} {reads : List Addr} {c : Cpu} (h : Touches s reads [] t) (hcpu : t.cpu = c)
include h hcpu

theorem Touches.push8 {v : Byte} (hreg : ∀ p ∈ pushedAt (pushSlot c) [v], NoRegister s p.1) :
    Touches s reads (pushedAt (pushSlot c) [v]) (push8 v t) := by
  rw [push8_eq (k := 0) hcpu]
  have hslot : NoRegister s (pushSlot c 0) := hreg (pushSlot c 0, v) (List.mem_singleton_self _)
  exact Touches.pushAt (l := []) h hslot v _

theorem Touches.push16 {v : Word} (hreg : ∀ p ∈ pushedAt (pushSlot c) (highFirst v), NoRegister s p.1) :
    Touches s reads (pushedAt (pushSlot c) (highFirst v)) (push16 v t) := by
  rw [Machine.push16, push8_eq (push8_pushed (k := 0) hcpu _), push8_eq (k := 0) hcpu]
  exact h.pushWordAt hreg _ _

theorem Touches.pushFull {v : Word} (hreg : ∀ p ∈ pushedAt (fullPushSlot c) (highFirst v), NoRegister s p.1) :
    Touches s reads (pushedAt (fullPushSlot c) (highFirst v)) (pushFull v t) := by
  have h0 := cpu_pushedFull_zero hcpu
  rw [Machine.pushFull, push16Full, push8Full_eq (push8Full_pushed h0 _), push8Full_eq h0]
  exact (h.pushWordAt hreg _ _).mapCpu _

end

/-- The bytes a push of width w stores, in order. -/
def pushBytes (v : Word) : Width → List Byte
  | .w8 => [lo v]
  | .w16 => highFirst v

theorem push8_idle_cpu (v : Byte) (s : State) : (push8 v (idle s)).cpu = { s.cpu with s := pushedS s.cpu 1 } :=
  push8_pushed (k := 0) (idle_cpu s) v

theorem push8_idle_writesTo (v : Byte) (s : State) :
    WritesTo s (push8 v (idle s)) [] (pushedAt (pushSlot s.cpu) [v]) :=
  writesTo_of_touches fun h _ hreg => (Touches.refl h).idle.push8 (idle_cpu s) hreg

theorem pushReg_cpu (w : Width) (v : Word) (s : State) :
    (pushReg w v s).cpu = { s.cpu with s := pushedS s.cpu (pushBytes v w).length } := by
  cases w with
  | w8 => exact push8_idle_cpu (lo v) s
  | w16 => exact push8_pushed (push8_pushed (k := 0) (idle_cpu s) (hi v)) (lo v)

theorem pushReg_writesTo (w : Width) (v : Word) (s : State) :
    WritesTo s (pushReg w v s) [] (pushedAt (pushSlot s.cpu) (pushBytes v w)) := by
  cases w with
  | w8 => exact push8_idle_writesTo (lo v) s
  | w16 => exact writesTo_of_touches fun h _ hreg => (Touches.refl h).idle.push16 (idle_cpu s) hreg

/-- R35. -/
theorem toByte_eq_statusByte (p : Status) : p.toByte = BitVec.ofNat 8 (statusByte p) := by
  obtain ⟨n, v, m, x, d, i, z, c⟩ := p
  revert n v m x d i z c
  decide

/-- Settles O33: PHA, PHX and PHY push their register's bytes (`pushReg_writesTo`), the others one byte
(`push8_idle_writesTo`), each byte at the slot that `push8_eq` gives it. -/
theorem pushes : Obligations.Pushes := by
  unfold Obligations.Pushes
  refine fun s => ⟨?pha, ?phx, ?phy, ?php, ?phb, ?phk⟩
  case pha => exact ⟨_, rfl, pushReg_cpu _ _ s, pushReg_writesTo _ _ s⟩
  case phx => exact ⟨_, rfl, pushReg_cpu _ _ s, pushReg_writesTo _ _ s⟩
  case phy => exact ⟨_, rfl, pushReg_cpu _ _ s, pushReg_writesTo _ _ s⟩
  case php =>
    rw [← toByte_eq_statusByte]
    exact ⟨_, rfl, push8_idle_cpu _ s, push8_idle_writesTo _ s⟩
  case phb => exact ⟨_, rfl, push8_idle_cpu _ s, push8_idle_writesTo _ s⟩
  case phk => exact ⟨_, rfl, push8_idle_cpu _ s, push8_idle_writesTo _ s⟩

/-- R34: PHD, PEA, PEI and PER push at the full S, and S ends in page 1 in emulation mode. -/
theorem pushFull_cpu (v : Word) {t : State} {c : Cpu} (h : t.cpu = c) :
    (pushFull v t).cpu = { c with s := pushedS c 2 } := by
  have hpushed : (push16Full v t).cpu = c.pushedFull 2 :=
    push8Full_pushed (push8Full_pushed (cpu_pushedFull_zero h) (hi v)) (lo v)
  rw [pushFull, forceS, mapCpu_cpu, hpushed, setS_pushedFull]

theorem pushFull_writesTo {s t : State} (h : Quiet s → Touches s [] [] t) (hcpu : t.cpu = s.cpu) (v : Word) :
    WritesTo s (pushFull v t) [] (pushedAt (fullPushSlot s.cpu) (highFirst v)) :=
  writesTo_of_touches fun hquiet _ hreg => (h hquiet).pushFull hcpu hreg

theorem pushIndirect_cpu (o : Byte) (s : State) : (pushIndirect o s).cpu = { s.cpu with s := pushedS s.cpu 2 } := by
  unfold pushIndirect
  dsimp only
  exact pushFull_cpu _ (by simp)

/-- R264: the value is the pointer in the direct page. -/
theorem pushIndirect_writesTo (o : Byte) (s : State) :
    let p0 := addr (dpaNat s.cpu o.toNat 0)
    let p1 := addr (dpaNat s.cpu o.toNat 1)
    WritesTo s (pushIndirect o s) [p0, p1]
      (pushedAt (fullPushSlot s.cpu) (highFirst (BitVec.ofNat 16 (pointerNat s p0 p1)))) := by
  have hbyte : ∀ k, (s.cpu.dpa (zext o)).byte k = addr (dpaNat s.cpu o.toNat k) := fun k =>
    (addr_of_toNat ((dpa_byte _ _ _).trans (by rw [zext_toNat]))).symm
  intro p0 p1
  refine writesTo_of_touches fun hquiet hreads hreg => ?_
  have hp : (readPointer16 (s.cpu.dpa (zext o)) (dCycle s)).1 = BitVec.ofNat 16 (pointerNat s p0 p1) := by
    rw [← readPointer16_dpa (AfterReads.refl hquiet).dCycle (zext_toNat o) (by simpa only [hbyte] using hreads),
      BitVec.ofNat_toNat, BitVec.setWidth_eq]
  have hread := (Touches.refl hquiet).dCycle.readPointer16 (s.cpu.dpa (zext o))
  rw [hbyte, hbyte] at hread
  unfold pushIndirect
  simp only [dCycle_cpu, hp]
  exact hread.pushFull (by simp) hreg

/-- Settles O34: each ends in `pushFull`, whose bytes go below the full S; PEI's value is the pointer it has read
(`pushIndirect_writesTo`), PER's is its operand from PC_next. -/
theorem fullPushes : Obligations.FullPushes := by
  unfold Obligations.FullPushes
  refine fun o v s => ⟨?phd, ?pea, ?pei, ?per⟩
  case phd =>
    exact ⟨_, rfl, pushFull_cpu _ (idle_cpu s), pushFull_writesTo (fun h => (Touches.refl h).idle) (idle_cpu s) _⟩
  case pea => exact ⟨_, rfl, pushFull_cpu _ rfl, pushFull_writesTo Touches.refl rfl _⟩
  case pei => exact ⟨_, rfl, pushIndirect_cpu o s, pushIndirect_writesTo o s⟩
  case per =>
    have hsum : BitVec.ofNat 16 (s.cpu.pc.toNat + v.toNat) = s.cpu.pc + v := (BitVec.add_def _ _).symm
    rw [hsum]
    exact ⟨_, rfl, pushFull_cpu _ (idle_cpu s), pushFull_writesTo (fun h => (Touches.refl h).idle) (idle_cpu s) _⟩

end Sys2Proof.Machine
end

section
/-! PROOFS. The pulls and the block moves, and words that decode (40_load_store_transfer.md R257-R269; 30_encoding.md
R171-R173). -/

namespace Sys2Proof.Machine
open Sys2Proof.Claims

/-! ### Pulls -/

section
variable {t : State} {c : Cpu} (h : t.cpu = c)
include h

theorem pull16_eq :
    pull16 t = readPair (fun _ => c.pulled 2) (pullSlot c 1) (pullSlot c 2) (t.mapCpu fun _ => c.pulled 1) := by
  simp only [pull16, readPair]
  rw [pull8_eq (pull8_pulled (k := 0) h), pull8_eq (k := 0) h]

theorem pull16Full_eq :
    pull16Full t =
      readPair (fun _ => c.pulledFull 2) (fullPullSlot c 1) (fullPullSlot c 2) (t.mapCpu fun _ => c.pulledFull 1) := by
  have h0 := cpu_pulledFull_zero h
  simp only [pull16Full, readPair]
  rw [pull8Full_eq (pull8Full_pulled h0), pull8Full_eq h0]

end

theorem idles_bus {s : State} (h : Quiet s) (n : Nat) : (idles n s).bus = s.bus := by
  have hkept : Quiet (idles n s) ∧ (idles n s).bus = s.bus :=
    iterate_keeps (P := fun u => Quiet u ∧ u.bus = s.bus) (fun u hu => ⟨quiet_idle hu.1, (idle_bus hu.1).trans hu.2⟩) n s
      ⟨h, rfl⟩
  exact hkept.2

/-- A word read in s after n internal cycles and changes of the registers is the pointer's value. -/
theorem readPair_idles_toNat {s : State} (h : Quiet s) (n : Nat) (f g : Cpu → Cpu) {a0 a1 : Addr} (h0 : NoRegister s a0)
    (h1 : NoRegister s a1) : (readPair g a0 a1 ((idles n s).mapCpu f)).1.toNat = pointerNat s a0 a1 := by
  rw [(((Touches.refl h).idles n).mapCpu f).readPair_toNat g h0 h1, mapCpu_bus, idles_bus h]
  rfl

/-- The number of bytes of a width. -/
def byteCount : Width → Nat
  | .w8 => 1
  | .w16 => 2

/-- The addresses a pull of width w reads, in order. -/
def pullSlots (c : Cpu) : Width → List Addr
  | .w8 => [pullSlot c 1]
  | .w16 => [pullSlot c 1, pullSlot c 2]

/-- The value of the bytes a pull of width w reads, low byte first. -/
def stackValue (s : State) : Width → Nat
  | .w8 => (busByte s.bus s.bus.mdr (pullSlot s.cpu 1)).toNat
  | .w16 => pointerNat s (pullSlot s.cpu 1) (pullSlot s.cpu 2)

theorem pull8_idles_eq (s : State) :
    pull8 (idles 2 s) = read8 (pullSlot s.cpu 1) ((idles 2 s).mapCpu fun _ => s.cpu.pulled 1) :=
  pull8_eq (k := 0) (idles_cpu 2 s)

theorem pull16_idles_eq (s : State) :
    pull16 (idles 2 s) =
      readPair (fun _ => s.cpu.pulled 2) (pullSlot s.cpu 1) (pullSlot s.cpu 2)
        ((idles 2 s).mapCpu fun _ => s.cpu.pulled 1) :=
  pull16_eq (idles_cpu 2 s)

theorem pullReg_cpu (w : Width) (s : State) :
    (pullReg w s).2.cpu = { s.cpu with s := pulledS s.cpu (byteCount w) } := by
  cases w with
  | w8 => simp only [pullReg, pull8_idles_eq, read8_cpu, mapCpu_cpu, Cpu.pulled, byteCount]
  | w16 => simp only [pullReg, pull16_idles_eq, readPair_cpu, Cpu.pulled, byteCount]

theorem pullReg_touches {s : State} (h : Quiet s) (w : Width) :
    Touches s (pullSlots s.cpu w) [] (pullReg w s).2 := by
  have hidle := ((Touches.refl h).idles 2).mapCpu fun _ => s.cpu.pulled 1
  cases w with
  | w8 =>
    simp only [pullReg, pull8_idles_eq]
    exact hidle.read8 _
  | w16 =>
    simp only [pullReg, pull16_idles_eq]
    exact hidle.readPair _ _ _

theorem pullReg_lt (w : Width) (s : State) : (pullReg w s).1.toNat < modulus w := by
  cases w with
  | w8 => exact (zext_toNat _).trans_lt (BitVec.isLt _)
  | w16 => exact BitVec.isLt _

theorem pullReg_toNat {s : State} (h : Quiet s) {w : Width} (hreg : ∀ a ∈ pullSlots s.cpu w, NoRegister s a) :
    (pullReg w s).1.toNat = stackValue s w := by
  cases w with
  | w8 =>
    have hidle := ((Touches.refl h).idles 2).mapCpu fun _ => s.cpu.pulled 1
    simp only [pullReg, pull8_idles_eq, zext_toNat]
    rw [hidle.read8_value (hreg _ (List.mem_singleton_self _)), mapCpu_bus, idles_bus h, stackValue]
  | w16 =>
    simp only [pullSlots, List.forall_mem_cons] at hreg
    obtain ⟨h1, h2, -⟩ := hreg
    simp only [pullReg, pull16_idles_eq]
    exact readPair_idles_toNat h 2 _ _ h1 h2

/-- R32, R33, R400. -/
theorem writeP_eq_forced (c : Cpu) (p : Status) : c.writeP p = forced c p := by
  have hidx : ∀ v, zext (lo v) = idx .w8 v.toNat := trunc_eq_idx .w8
  unfold Cpu.writeP forced
  generalize (if c.e then { p with m := true, x := true } else p) = q
  cases hx : q.x with
  | true => simp only [hidx, hx, if_true]
  | false => simp only [hx, Bool.false_eq_true, if_false]

/-- R35. -/
theorem ofByte_lo (v : Word) : Status.ofByte (lo v) = statusOf v.toNat := by
  have hbit : ∀ k : Nat, k < 8 → (lo v).getLsbD k = bit v.toNat k := fun k hk => by
    rw [lo_getLsbD, decide_eq_true hk, Bool.true_and, bit, ← Nat.testBit_eq_decide_div_mod_eq]
    rfl
  simp (disch := decide) only [Status.ofByte, statusOf, hbit]

theorem pullStatus_eq (s : State) :
    pullStatus s = (pullReg .w8 s).2.mapCpu fun c => c.writeP (Status.ofByte (lo (pullReg .w8 s).1)) := by
  simp only [pullStatus, pullReg, lo_zext]

theorem pullBank_eq (s : State) :
    pullBank s = (pullReg .w8 s).2.mapCpu fun c =>
      { c with db := lo (pullReg .w8 s).1, p := setNZ .w8 (pullReg .w8 s).1 c.p } := by
  simp only [pullBank, pullReg, lo_zext]

/-- Every pull instruction of width w changes the registers by what it makes of the value pulled, and moves nothing. -/
theorem pullReg_pulls {i : Instr} {s : State} {w : Width} {op : Word → Cpu → Cpu} {d : Nat → Cpu}
    (hexec : exec i s = .next ((pullReg w s).2.mapCpu (op (pullReg w s).1)))
    (hop : ∀ v, op v { s.cpu with s := pulledS s.cpu (byteCount w) } = d v.toNat) :
    ∃ (t : State) (n : Nat), exec i s = .next t ∧ n < modulus w ∧ t.cpu = d n ∧ ReadsOnly s t (pullSlots s.cpu w) ∧
      (Quiet s → (∀ a ∈ pullSlots s.cpu w, NoRegister s a) → n = stackValue s w) := by
  refine ⟨_, (pullReg w s).1.toNat, hexec, pullReg_lt w s, ?cpu, ?reads, fun h hreg => pullReg_toNat h hreg⟩
  case cpu => rw [mapCpu_cpu, pullReg_cpu, hop]
  case reads => exact readsOnly_of_touches fun h => (pullReg_touches h w).mapCpu _

theorem pullDirect_cpu (s : State) :
    (pullDirect s).cpu = { s.cpu with
      s := pulledS s.cpu 2, d := (pull16Full (idles 2 s)).1, p := setNZ .w16 (pull16Full (idles 2 s)).1 s.cpu.p } := by
  have hpulled : (pull16Full (idles 2 s)).2.cpu = s.cpu.pulledFull 2 := by
    rw [pull16Full_eq (idles_cpu 2 s), readPair_cpu]
  simp only [pullDirect, forceS, mapCpu_cpu, hpulled]
  generalize (pull16Full (idles 2 s)).1 = v
  exact setS_pulledFull { s.cpu with d := v, p := setNZ .w16 v s.cpu.p } 2

theorem pullDirect_touches {s : State} (h : Quiet s) :
    Touches s [fullPullSlot s.cpu 1, fullPullSlot s.cpu 2] [] (pullDirect s) := by
  simp only [pullDirect, forceS, pull16Full_eq (idles_cpu 2 s)]
  exact (((((Touches.refl h).idles 2).mapCpu _).readPair _ _ _).mapCpu _).mapCpu _

/-- Settles O35: the slots are those `pull8_eq` and `pull8Full_eq` give each byte, the value is that of the bytes read there
(`pullReg_toNat`, `readPair_idles_toNat`). -/
theorem pulls : Obligations.Pulls := by
  unfold Obligations.Pulls
  refine fun s => ⟨?pla, ?plx, ?ply, ?plp, ?plb, ?pld⟩
  case pla => exact pullReg_pulls (w := s.cpu.mw) rfl fun v => opLda_eq _ v _
  case plx => exact pullReg_pulls (w := s.cpu.xw) rfl fun v => opLdx_eq _ v _
  case ply => exact pullReg_pulls (w := s.cpu.xw) rfl fun v => opLdy_eq _ v _
  case plp =>
    have hexec : exec .plp s = .next (pullStatus s) := rfl
    rw [pullStatus_eq] at hexec
    refine pullReg_pulls (op := fun v c => c.writeP (Status.ofByte (lo v))) hexec fun v => ?_
    rw [writeP_eq_forced, ofByte_lo]
    rfl
  case plb =>
    have hexec : exec .plb s = .next (pullBank s) := rfl
    rw [pullBank_eq] at hexec
    refine pullReg_pulls (op := fun v c => { c with db := lo v, p := setNZ .w8 v c.p }) hexec fun v => ?_
    rw [setNZ_eq_nz, BitVec.ofNat_toNat]
    rfl
  case pld =>
    refine ⟨_, (pull16Full (idles 2 s)).1.toNat, rfl, BitVec.isLt _, ?cpu, readsOnly_of_touches pullDirect_touches,
      fun h h1 h2 => ?value⟩
    case cpu => rw [pullDirect_cpu, setNZ_eq_nz, BitVec.ofNat_toNat, BitVec.setWidth_eq]
    case value =>
      rw [pull16Full_eq (idles_cpu 2 s)]
      exact readPair_idles_toNat h 2 _ _ h1 h2

/-! ### Block moves -/

theorem idx_toNat_add (w : Width) (v k : Word) : idx w (v + k).toNat = idx w (v.toNat + k.toNat) := by
  rw [idx, idx, BitVec.toNat_add]
  cases w with
  | w8 => simp only [modulus, Width.bits]; congr 1; omega
  | w16 => simp only [modulus, Width.bits, Nat.mod_mod]

theorem moved_eq (c : Cpu) (step : Word) :
    c.moved step = { c with x := idx c.xw (c.x.toNat + step.toNat), y := idx c.xw (c.y.toNat + step.toNat), a := c.a - 1
                            pc := if c.a = 0 then c.pc else c.pc - 3 } := by
  have hwrap : c.a - 1 = 0xFFFF ↔ c.a = 0 := by
    constructor <;> intro h <;> bv_omega
  simp only [Cpu.moved, trunc_eq_idx, idx_toNat_add, hwrap]
  split <;> rfl

/-- The byte a block move reads, with DB already the destination's bank. -/
def movedByte (dst src : Byte) (s : State) : Byte :=
  (read8 (long src s.cpu.x) (s.mapCpu fun c => { c with db := dst })).1

theorem blockMove_cpu (dst src : Byte) (step : Word) (s : State) :
    (blockMove dst src step s).cpu = { s.cpu with db := dst }.moved step := by
  simp [blockMove]

theorem blockMove_touches {s : State} (h : Quiet s) {dst : Byte} (hreg : NoRegister s (long dst s.cpu.y)) (src : Byte)
    (step : Word) :
    Touches s [long src s.cpu.x] [(long dst s.cpu.y, movedByte dst src s)] (blockMove dst src step s) := by
  have hread := ((Touches.refl h).mapCpu fun c => { c with db := dst }).read8 (long src s.cpu.x)
  unfold blockMove
  simp only [read8_cpu, mapCpu_cpu]
  exact ((hread.write8 hreg _).idles 2).mapCpu _

/-- R268, R269: one byte, whichever way the addresses move. -/
theorem blockMove_moves {i : Instr} {dst src : Byte} {step : Word} {s : State}
    (hexec : exec i s = .next (blockMove dst src step s)) :
    let c := s.cpu
    ∃ (t : State) (v : Byte), exec i s = .next t ∧
      t.cpu = { c with db := dst, x := idx c.xw (c.x.toNat + step.toNat), y := idx c.xw (c.y.toNat + step.toNat)
                       a := c.a - 1, pc := if c.a = 0 then c.pc else c.pc - 3 } ∧
      WritesTo s t [long src c.x] [(long dst c.y, v)] ∧
      (Quiet s → NoRegister s (long src c.x) → v = busByte s.bus s.bus.mdr (long src c.x)) := by
  intro c
  refine ⟨_, movedByte dst src s, hexec, (blockMove_cpu dst src step s).trans (moved_eq _ _), ?writes, ?value⟩
  case writes =>
    refine writesTo_of_touches fun h _ hreg => blockMove_touches h ?_ src step
    exact hreg (long dst c.y, movedByte dst src s) (List.mem_singleton_self _)
  case value => exact fun h hreg => ((Touches.refl h).mapCpu _).read8_value hreg

/-- Settles O36: MVN and MVP are `blockMove` with the steps 1 and -1. -/
theorem blockMoves : Obligations.BlockMove := by
  unfold Obligations.BlockMove
  exact fun dst src s => ⟨blockMove_moves (step := 1) rfl, blockMove_moves (step := -1) rfl⟩

/-! ### Known words -/

/-- Settles O7, by running the decoder on each word. -/
theorem knownWordsDecode : Obligations.KnownWordsDecode := by
  unfold Obligations.KnownWordsDecode
  exact ⟨rfl, rfl, rfl, rfl, rfl, rfl, rfl, rfl, rfl, rfl, rfl, rfl, rfl, rfl⟩

end Sys2Proof.Machine
end

section
/-! PROOFS. The arithmetic and logic instructions that read an operand or step a register, and the single-flag instructions
(41_arith_logic.md R305-R319; 43_system_flags.md R405-R411). -/

namespace Sys2Proof.Machine
open Sys2Proof.Claims

/-! ### Numbers that agree modulo 2^w -/

section
variable {w : Width} {n n' : Nat} (h : n % modulus w = n' % modulus w)
include h

theorem accWith_congr (a : Word) : accWith w a n = accWith w a n' := by
  cases w with
  | w8 =>
    have hbyte : n % 256 = n' % 256 := h
    rw [accWith, accWith, hbyte]
  | w16 =>
    apply BitVec.eq_of_toNat_eq
    rw [accWith, accWith, BitVec.toNat_ofNat, BitVec.toNat_ofNat]
    exact h

theorem nz_congr (p : Status) : nz w n p = nz w n' p := by rw [nz, nz, h]

theorem idx_congr : idx w n = idx w n' := by rw [idx, idx, h]

end

theorem modulus_pos (w : Width) : 0 < modulus w := Nat.two_pow_pos _

theorem low_lt (w : Width) (v : Word) : low w v < modulus w := Nat.mod_lt _ (modulus_pos w)

/-- 2^w divides 2^16, so a word's number stands for itself modulo 2^w. -/
theorem ofNat_mod_modulus (w : Width) (n : Nat) : (BitVec.ofNat 16 n).toNat % modulus w = n % modulus w := by
  rw [BitVec.toNat_ofNat]
  cases w with
  | w8 => exact Nat.mod_mod_of_dvd n (by decide)
  | w16 => exact Nat.mod_mod n _

/-! ### The operand -/

theorem ofNat_operand (w : Width) (m : Mode) (s : State) : BitVec.ofNat 16 (operand w m s) = (eaRead w m s).1 := by
  rw [operand, BitVec.ofNat_toNat, BitVec.setWidth_eq]

theorem readEA_lt (w : Width) (ea : EA) (s : State) : (readEA w ea s).1.toNat < modulus w := by
  cases w with
  | w8 => exact (zext_toNat _).trans_lt (BitVec.isLt _)
  | w16 => exact BitVec.isLt _

/-- R220: an operand of width w is a w-bit value. -/
theorem operand_lt (w : Width) (m : Mode) (s : State) : operand w m s < modulus w := by
  cases hm : isImm m with
  | true =>
    cases m with
    | imm v => exact (trunc_toNat w _).trans_lt (Nat.mod_lt _ (modulus_pos w))
    | _ => cases hm
  | false =>
    rw [operand, eaRead_of_memory hm]
    exact readEA_lt _ _ _

/-! ### ADC and SBC -/

theorem exec_of_adcMode {i : Instr} {m : Mode} (h : adcMode i = some m) (s : State) :
    exec i s = .next (readOperand s.cpu.mw m opAdc s) := by
  unfold adcMode at h
  split at h <;> cases h <;> rfl

theorem exec_of_sbcMode {i : Instr} {m : Mode} (h : sbcMode i = some m) (s : State) :
    exec i s = .next (readOperand s.cpu.mw m opSbc s) := by
  unfold sbcMode at h
  split at h <;> cases h <;> rfl

/-- The registers after A, N, V, Z and C take an adder's result (R305, R306). -/
def Cpu.takeSum (w : Width) (r : AddResult) (c : Cpu) : Cpu :=
  { c with a := accWith w c.a r.value.toNat, p := nz w r.value.toNat { c.p with v := r.v, c := r.c } }

theorem setA_flags_eq_takeSum (w : Width) (r : AddResult) (c : Cpu) :
    { c.setA w r.value with p := r.flags w c.p } = c.takeSum w r := by
  rw [setA_eq, AddResult.flags, setNZ_eq_nz, Cpu.takeSum]

/-- Settles O20: every form is `readOperand` with its mnemonic's operation, which gives A and the flags the adder's result
(`setA_flags_eq_takeSum`). -/
theorem adcSbcResults : Obligations.AdcSbcResults := by
  unfold Obligations.AdcSbcResults
  intro i m s
  dsimp only
  rw [ofNat_operand]
  exact ⟨fun h => readOperand_becomes (exec_of_adcMode h s) (setA_flags_eq_takeSum _ _ _),
    fun h => readOperand_becomes (exec_of_sbcMode h s) (setA_flags_eq_takeSum _ _ _)⟩

/-! ### Comparisons -/

theorem exec_of_cmpMode {i : Instr} {m : Mode} (h : cmpMode i = some m) (s : State) :
    exec i s = .next (readOperand s.cpu.mw m opCmp s) := by
  unfold cmpMode at h
  split at h <;> cases h <;> rfl

theorem exec_of_cpxMode {i : Instr} {m : Mode} (h : cpxMode i = some m) (s : State) :
    exec i s = .next (readOperand s.cpu.xw m opCpx s) := by
  unfold cpxMode at h
  split at h <;> cases h <;> rfl

theorem exec_of_cpyMode {i : Instr} {m : Mode} (h : cpyMode i = some m) (s : State) :
    exec i s = .next (readOperand s.cpu.xw m opCpy s) := by
  unfold cpyMode at h
  split at h <;> cases h <;> rfl

theorem sub_toNat_mod_modulus (w : Width) {reg v : Word} (hv : v.toNat < modulus w) :
    (reg - v).toNat % modulus w = (low w reg + modulus w - v.toNat) % modulus w := by
  have := reg.isLt
  rw [BitVec.toNat_sub]
  cases w <;> simp only [low, modulus, Width.bits] at hv ⊢ <;> omega

/-- R307, R308 and R309, for an operand of width w. -/
theorem compare_eq {w : Width} {v : Word} (hv : v.toNat < modulus w) (reg : Word) (p : Status) :
    compare w reg v p =
      nz w (low w reg + modulus w - v.toNat) { p with c := decide (v.toNat ≤ low w reg) } := by
  rw [compare, setNZ_eq_nz, nz_congr (sub_toNat_mod_modulus w hv), trunc_toNat, trunc_toNat, Nat.mod_eq_of_lt hv, low]

/-- Settles O23: every form is `readOperand` with its mnemonic's comparison (`compare_eq`). -/
theorem compareResults : Obligations.CompareResults := by
  unfold Obligations.CompareResults
  have hflags (w : Width) (reg : Word) (m : Mode) (s : State) :=
    congrArg (fun p => { s.cpu with p := p }) (compare_eq (operand_lt w m s) reg s.cpu.p)
  exact fun i m s => ⟨fun h => readOperand_becomes (exec_of_cmpMode h s) (hflags _ _ _ _),
    fun h => readOperand_becomes (exec_of_cpxMode h s) (hflags _ _ _ _),
    fun h => readOperand_becomes (exec_of_cpyMode h s) (hflags _ _ _ _)⟩

/-! ### AND, ORA and EOR -/

theorem exec_of_andMode {i : Instr} {m : Mode} (h : andMode i = some m) (s : State) :
    exec i s = .next (readOperand s.cpu.mw m opAnd s) := by
  unfold andMode at h
  split at h <;> cases h <;> rfl

theorem exec_of_oraMode {i : Instr} {m : Mode} (h : oraMode i = some m) (s : State) :
    exec i s = .next (readOperand s.cpu.mw m opOra s) := by
  unfold oraMode at h
  split at h <;> cases h <;> rfl

theorem exec_of_eorMode {i : Instr} {m : Mode} (h : eorMode i = some m) (s : State) :
    exec i s = .next (readOperand s.cpu.mw m opEor s) := by
  unfold eorMode at h
  split at h <;> cases h <;> rfl

section
variable {w : Width} {v : Word}

theorem and_toNat_mod_modulus (hv : v.toNat < modulus w) (a : Word) :
    (a &&& v).toNat % modulus w = low w a &&& v.toNat := by
  rw [BitVec.toNat_and, modulus, Nat.and_mod_two_pow, ← modulus, Nat.mod_eq_of_lt hv, low]

theorem or_toNat_mod_modulus (hv : v.toNat < modulus w) (a : Word) :
    (a ||| v).toNat % modulus w = low w a ||| v.toNat := by
  rw [BitVec.toNat_or, modulus, Nat.or_mod_two_pow, ← modulus, Nat.mod_eq_of_lt hv, low]

theorem xor_toNat_mod_modulus (hv : v.toNat < modulus w) (a : Word) :
    (a ^^^ v).toNat % modulus w = low w a ^^^ v.toNat := by
  rw [BitVec.toNat_xor, modulus, Nat.xor_mod_two_pow, ← modulus, Nat.mod_eq_of_lt hv, low]

/-- A, N and Z take the w-bit value n of a word. -/
theorem setA_setNZ_eq {n : Nat} (h : v.toNat % modulus w = n) (c : Cpu) :
    { c.setA w v with p := setNZ w v c.p } = { c with a := accWith w c.a n, p := nz w n c.p } := by
  have hn : v.toNat % modulus w = n % modulus w := by rw [← h, Nat.mod_mod]
  rw [setA_eq, setNZ_eq_nz, accWith_congr hn, nz_congr hn]

end

/-- Settles O24: every form is `readOperand` with its mnemonic's operation, which is bitwise on the low w bits. -/
theorem logicResults : Obligations.LogicResults := by
  unfold Obligations.LogicResults
  exact fun i m s =>
    ⟨fun h => readOperand_becomes (exec_of_andMode h s) (setA_setNZ_eq (and_toNat_mod_modulus (operand_lt _ _ _) _) _),
      fun h => readOperand_becomes (exec_of_oraMode h s) (setA_setNZ_eq (or_toNat_mod_modulus (operand_lt _ _ _) _) _),
      fun h => readOperand_becomes (exec_of_eorMode h s) (setA_setNZ_eq (xor_toNat_mod_modulus (operand_lt _ _ _) _) _)⟩

/-! ### BIT -/

theorem exec_of_bitMode {i : Instr} {m : Mode} (h : bitMode i = some m) (s : State) :
    exec i s = .next (readOperand s.cpu.mw m opBit s) := by
  unfold bitMode at h
  split at h <;> cases h <;> rfl

theorem getLsbD_eq_bit (v : Word) (k : Nat) : v.getLsbD k = bit v.toNat k := Nat.testBit_eq_decide_div_mod_eq

/-- R313, R324 and R325: the test Z shows. -/
theorem andTest_eq {w : Width} {v : Word} (hv : v.toNat < modulus w) (a : Word) :
    decide (trunc w (a &&& v) = 0) = decide (low w a &&& v.toNat = 0) := by
  rw [decide_eq_decide, trunc_eq_zero_iff, and_toNat_mod_modulus hv]

theorem bitMemory_eq {w : Width} {v : Word} (hv : v.toNat < modulus w) (a : Word) (p : Status) :
    bitMemory w a v p = { p with
      n := bit v.toNat (w.bits - 1), v := bit v.toNat (w.bits - 2), z := decide (low w a &&& v.toNat = 0) } := by
  rw [bitMemory, andTest_eq hv, msb, getLsbD_eq_bit, getLsbD_eq_bit]

theorem bitImmediate_eq {w : Width} {v : Word} (hv : v.toNat < modulus w) (a : Word) (p : Status) :
    bitImmediate w a v p = { p with z := decide (low w a &&& v.toNat = 0) } := by
  rw [bitImmediate, andTest_eq hv]

/-- Settles O25: a memory form is `readOperand` with `opBit`, the immediate form with `opBitImm`; both test A AND operand
(`andTest_eq`), and only the first takes the operand's two top bits. -/
theorem bitResults : Obligations.BitResults := by
  unfold Obligations.BitResults
  refine ⟨fun i m s h => readOperand_becomes (exec_of_bitMode h s) ?memory,
    fun o s => readOperand_becomes (i := .bitImm o) (m := .imm o) rfl ?immediate⟩
  case memory => exact congrArg (fun p => { s.cpu with p := p }) (bitMemory_eq (operand_lt _ _ _) _ _)
  case immediate => exact congrArg (fun p => { s.cpu with p := p }) (bitImmediate_eq (operand_lt _ _ _) _ _)

/-! ### INX, INY, DEX, DEY and the single-flag instructions -/

theorem inc_toNat_mod_modulus (w : Width) (v : Word) : (v + 1).toNat % modulus w = (v.toNat + 1) % modulus w :=
  ofNat_mod_modulus w (v.toNat + 1)

theorem dec_toNat_mod_modulus (w : Width) (v : Word) : (v - 1).toNat % modulus w = (v.toNat + 65535) % modulus w := by
  rw [Nat.add_comm]
  exact ofNat_mod_modulus w (65535 + v.toNat)

section
variable {v : Word} {n : Nat} (c : Cpu) (h : v.toNat % modulus c.xw = n % modulus c.xw)
include h

theorem setX_setNZ_eq : { c.setX v with p := setNZ c.xw v c.p } = { c with x := idx c.xw n, p := nz c.xw n c.p } := by
  rw [setX_eq, setNZ_eq_nz, idx_congr h, nz_congr h]

theorem setY_setNZ_eq : { c.setY v with p := setNZ c.xw v c.p } = { c with y := idx c.xw n, p := nz c.xw n c.p } := by
  rw [setY_eq, setNZ_eq_nz, idx_congr h, nz_congr h]

end

/-- Settles O30: every instruction is `implied`; the first four step their register modulo 2^16, and so modulo 2^xw. -/
theorem indexAndFlagInstructions : Obligations.IndexAndFlagInstructions := by
  unfold Obligations.IndexAndFlagInstructions
  exact fun s =>
    ⟨implied_becomes rfl (setX_setNZ_eq _ (inc_toNat_mod_modulus _ _)),
      implied_becomes rfl (setY_setNZ_eq _ (inc_toNat_mod_modulus _ _)),
      implied_becomes rfl (setX_setNZ_eq _ (dec_toNat_mod_modulus _ _)),
      implied_becomes rfl (setY_setNZ_eq _ (dec_toNat_mod_modulus _ _)),
      implied_becomes rfl rfl, implied_becomes rfl rfl, implied_becomes rfl rfl, implied_becomes rfl rfl,
      implied_becomes rfl rfl, implied_becomes rfl rfl, implied_becomes rfl rfl⟩

end Sys2Proof.Machine
end

section
/-! PROOFS. The read-modify-write instructions, on memory and on the accumulator (41_arith_logic.md R314, R315, R320-R325;
30_encoding.md R177). -/

namespace Sys2Proof.Machine
open Sys2Proof.Claims

/-! ### Words of a width -/

theorem msb_of_lt {w : Width} {v : Word} (hv : v.toNat < modulus w) : msb w v = decide (modulus w / 2 ≤ v.toNat) := by
  rw [msb_eq, Nat.mod_eq_of_lt hv]

theorem bit0_eq (v : Word) : v.getLsbD 0 = decide (v.toNat % 2 = 1) := by
  rw [getLsbD_eq_bit, bit, Nat.pow_zero, Nat.div_one]

theorem trunc_eq_ofNat {w : Width} {v : Word} {n : Nat} (h : v.toNat % modulus w = n) : trunc w v = BitVec.ofNat 16 n := by
  rw [← h, ← trunc_toNat, BitVec.ofNat_toNat, BitVec.setWidth_eq]

theorem low_not (w : Width) (v : Word) : low w (~~~v) = modulus w - 1 - low w v := by
  have := v.isLt
  rw [low, low, BitVec.toNat_not]
  cases w <;> simp only [modulus, Width.bits] <;> omega

/-- The carry as a word. -/
theorem carry_toNat (c : Bool) : ((BitVec.ofBool c).setWidth 16).toNat = c.toNat := by cases c <;> rfl

theorem carry_lt_two_pow (c : Bool) (k : Nat) : c.toNat < 2 ^ (k + 1) :=
  (Bool.toNat_lt c).trans_le (Nat.le_self_pow (Nat.succ_ne_zero k) 2)

/-- A left shift by one bit. -/
theorem shiftLeft_toNat (v : Word) : (v <<< 1).toNat = 2 * (v.toNat % 32768) := by
  rw [BitVec.toNat_shiftLeft, Nat.shiftLeft_eq, pow_one, Nat.mul_comm]
  exact Nat.mul_mod_mul_left 2 v.toNat 32768

/-- A left shift by one bit with the carry shifted in (R322). -/
theorem rotateLeft_toNat (v : Word) (c : Bool) :
    ((v <<< 1) ||| (BitVec.ofBool c).setWidth 16).toNat = 2 * (v.toNat % 32768) + c.toNat := by
  rw [BitVec.toNat_or, shiftLeft_toNat, carry_toNat]
  exact (Nat.two_pow_add_eq_or_of_lt (carry_lt_two_pow c 0) _).symm

/-- A right shift by one bit with the carry shifted in at bit w-1 (R323). -/
theorem rotateRight_toNat {w : Width} {v : Word} (hv : v.toNat < modulus w) (c : Bool) :
    ((trunc w v >>> 1) ||| ((BitVec.ofBool c).setWidth 16 <<< (w.bits - 1))).toNat =
      v.toNat / 2 + modulus w / 2 * c.toNat := by
  have htop : modulus w / 2 = 2 ^ (w.bits - 1) := by cases w <;> rfl
  have hlow : v.toNat / 2 < 2 ^ (w.bits - 1) := by
    cases w <;> simp only [modulus, Width.bits] at hv ⊢ <;> omega
  have hcarry : ((BitVec.ofBool c).setWidth 16 <<< (w.bits - 1)).toNat = 2 ^ (w.bits - 1) * c.toNat := by
    cases c <;> cases w <;> rfl
  rw [BitVec.toNat_or, BitVec.toNat_ushiftRight, trunc_toNat, Nat.mod_eq_of_lt hv, Nat.shiftRight_one, hcarry, htop,
    Nat.lor_comm, ← Nat.two_pow_add_eq_or_of_lt hlow, Nat.add_comm]

/-! ### The operations -/

/-- The model's operation of each read-modify-write mnemonic (R314, R315, R320-R325). -/
def modifyOp : Modify → Width → Word → Word → Status → Rmw
  | .asl => rmwAsl
  | .lsr => rmwLsr
  | .rol => rmwRol
  | .ror => rmwRor
  | .inc => rmwInc
  | .dec => rmwDec
  | .tsb => rmwTsb
  | .trb => rmwTrb

/-- A result that is narrowed to the width, with its N and Z. -/
theorem rmw_of_mod_eq {w : Width} {r : Word} {n : Nat} (h : r.toNat % modulus w = n % modulus w) (p : Status) :
    Rmw.mk (trunc w r) (setNZ w (trunc w r) p) = ⟨BitVec.ofNat 16 (n % modulus w), nz w n p⟩ := by
  rw [setNZ_eq_nz, trunc_toNat, h, nz_congr (Nat.mod_mod _ _), trunc_eq_ofNat h]

/-- A result that fits the width, with its N and Z. -/
theorem rmw_of_eq {w : Width} {r : Word} {n : Nat} (h : r.toNat = n) (p : Status) :
    Rmw.mk r (setNZ w r p) = ⟨BitVec.ofNat 16 n, nz w n p⟩ := by
  rw [setNZ_eq_nz, h, ← h, BitVec.ofNat_toNat, BitVec.setWidth_eq]

/-- A bitwise result and the test of R324 and R325. -/
theorem rmw_of_test {w : Width} {v r : Word} (hv : v.toNat < modulus w) {n : Nat} (h : r.toNat % modulus w = n) (a : Word)
    (p : Status) :
    Rmw.mk (trunc w r) { p with z := decide (trunc w (a &&& v) = 0) } =
      ⟨BitVec.ofNat 16 n, { p with z := decide (low w a &&& v.toNat = 0) }⟩ := by
  rw [andTest_eq hv, trunc_eq_ofNat h]

/-- R314, R315, R320 to R325: what each operation makes of a w-bit value. -/
theorem modifyOp_eq {w : Width} {v : Word} (hv : v.toNat < modulus w) (k : Modify) (a : Word) (p : Status) :
    modifyOp k w a v p =
      ⟨BitVec.ofNat 16 (modified k w (low w a) v.toNat p).1, (modified k w (low w a) v.toNat p).2⟩ := by
  cases k with
  | asl =>
    have hshift : (v <<< 1).toNat % modulus w = 2 * v.toNat % modulus w := by
      rw [shiftLeft_toNat]
      cases w <;> simp only [modulus, Width.bits] <;> omega
    simp only [modifyOp, rmwAsl, modified, msb_of_lt hv]
    exact rmw_of_mod_eq hshift _
  | rol =>
    have hrotate : ((v <<< 1) ||| (BitVec.ofBool p.c).setWidth 16).toNat % modulus w =
        (2 * v.toNat + p.c.toNat) % modulus w := by
      rw [rotateLeft_toNat]
      cases w <;> simp only [modulus, Width.bits] <;> omega
    simp only [modifyOp, rmwRol, modified, msb_of_lt hv]
    exact rmw_of_mod_eq hrotate _
  | lsr =>
    have hshift : (trunc w v >>> 1).toNat = v.toNat / 2 := by
      rw [BitVec.toNat_ushiftRight, trunc_toNat, Nat.mod_eq_of_lt hv, Nat.shiftRight_one]
    simp only [modifyOp, rmwLsr, modified, bit0_eq]
    exact rmw_of_eq hshift _
  | ror =>
    simp only [modifyOp, rmwRor, modified, bit0_eq]
    exact rmw_of_eq (rotateRight_toNat hv p.c) _
  | inc => exact rmw_of_mod_eq (inc_toNat_mod_modulus w v) p
  | dec =>
    have hdec : (v - 1).toNat % modulus w = (v.toNat + (modulus w - 1)) % modulus w := by
      rw [dec_toNat_mod_modulus]
      cases w <;> simp only [modulus, Width.bits] <;> omega
    exact rmw_of_mod_eq hdec p
  | tsb =>
    have hor : (v ||| a).toNat % modulus w = v.toNat ||| low w a := by
      rw [BitVec.or_comm, or_toNat_mod_modulus hv, Nat.lor_comm]
    exact rmw_of_test hv hor a p
  | trb =>
    have hand : (v &&& ~~~a).toNat % modulus w = v.toNat &&& (modulus w - 1 - low w a) := by
      rw [BitVec.and_comm, and_toNat_mod_modulus hv, low_not, Nat.land_comm]
    exact rmw_of_test hv hand a p

/-! ### On the accumulator -/

theorem exec_of_modifyAcc {i : Instr} {k : Modify} (h : modifyAcc i = some k) (s : State) :
    exec i s = .next (modifyAccumulator (modifyOp k) s) := by
  unfold modifyAcc at h
  split at h <;> cases h <;> rfl

/-- Settles O28: every form is `modifyAccumulator` with its mnemonic's operation on A's w-bit value (`modifyOp_eq`). -/
theorem rmwAccumulator : Obligations.RmwAccumulator := by
  unfold Obligations.RmwAccumulator
  intro i k s h
  refine implied_becomes (exec_of_modifyAcc h s) ?_
  dsimp only
  have hlow : (s.cpu.regA s.cpu.mw).toNat = low s.cpu.mw s.cpu.a := trunc_toNat _ _
  rw [modifyOp_eq (hlow.trans_lt (low_lt _ _)), hlow, setA_eq]
  dsimp only
  rw [accWith_congr (ofNat_mod_modulus _ _)]

/-! ### On memory -/

theorem exec_of_modifyMode {i : Instr} {k : Modify} {m : Mode} (h : modifyMode i = some (k, m)) (s : State) :
    exec i s = .next (modifyOperand m (modifyOp k) s) := by
  unfold modifyMode at h
  split at h <;> cases h <;> rfl

/-- R314, R320, R324: no read-modify-write instruction reads a pointer. -/
theorem pointerBytes_of_modifyMode {i : Instr} {k : Modify} {m : Mode} (h : modifyMode i = some (k, m)) (s : State) :
    pointerBytes s m = [] := by
  unfold modifyMode at h
  split at h <;> cases h <;> rfl

/-- A mode without pointer leaves the bus as it is. -/
theorem effAddr_bus {s : State} {m : Mode} (h : Quiet s) (hptr : pointerBytes s m = []) (acc : Access) :
    (effAddr acc m s).2.bus = s.bus := by
  have hs : AfterReads s s.bus.mdr s := .refl h
  cases m with
  | imm _ | abs _ | long _ | longx _ => rfl
  | dp _ => exact hs.dCycle.bus
  | dpx _ | dpy _ => exact hs.dCycle.idle.bus
  | absx _ | absy _ => exact pCycle_bus h _ _ _
  | sr _ => exact hs.idle.bus
  | dpind _ | dpxind _ | dpindy _ | dpindl _ | dpindly _ | srindy _ => cases hptr

theorem Touches.of_noRegister {s t : State} {reads : List Addr} {stores : List (Addr × Byte)}
    (h : Touches s reads stores t) (hreg : ∀ a ∈ reads, NoRegister s a) : Touches s [] stores t :=
  ⟨h.quiet, h.bus, fun _ => h.special hreg⟩

/-- R177: the high byte first. -/
theorem Touches.writeEARmw {s t : State} {reads : List Addr} {stores : List (Addr × Byte)} (h : Touches s reads stores t)
    {w : Width} {ea : EA} {v : Word} (hreg : ∀ p ∈ modifiedAt w ea v, NoRegister s p.1) :
    Touches s reads (stores ++ modifiedAt w ea v) (writeEARmw w ea v t) := by
  cases w with
  | w8 => exact h.write8 (hreg _ (List.mem_singleton_self _)) _
  | w16 =>
    simp only [modifiedAt, List.forall_mem_cons] at hreg
    obtain ⟨hhigh, hlow, -⟩ := hreg
    have hstores := (h.write8 hhigh (hi v)).write8 hlow (lo v)
    rw [List.append_assoc] at hstores
    exact hstores

/-- The bytes read are those written. -/
theorem forall_dataBytes_of_forall_modifiedAt {P : Addr → Prop} {w : Width} {ea : EA} {v : Word}
    (h : ∀ p ∈ modifiedAt w ea v, P p.1) : ∀ a ∈ dataBytes w ea, P a := by
  cases w with
  | w8 => simpa only [modifiedAt, dataBytes, List.forall_mem_singleton] using h
  | w16 =>
    simp only [modifiedAt, dataBytes, List.forall_mem_cons] at h ⊢
    obtain ⟨hhigh, hlow, hnil⟩ := h
    exact ⟨hlow, hhigh, fun _ hmem => nomatch hmem⟩

theorem modifyOperand_writesTo (op : Width → Word → Word → Status → Rmw) {m : Mode} {s : State}
    (hptr : pointerBytes s m = []) :
    WritesTo s (modifyOperand m op s) []
      (modifiedAt s.cpu.mw (effAddr .rmw m s).1 (op s.cpu.mw s.cpu.a (rmwOld m s) s.cpu.p).value) := by
  refine writesTo_of_touches fun hquiet _ hreg => ?_
  have haddr : Touches s [] [] (effAddr .rmw m s).2 := hptr ▸ effAddr_touches hquiet .rmw m
  have hread := (haddr.readEA s.cpu.mw (effAddr .rmw m s).1).of_noRegister (forall_dataBytes_of_forall_modifiedAt hreg)
  simp only [modifyOperand, idle_cpu, readEA_cpu, effAddr_cpu]
  exact (hread.idle.writeEARmw hreg).mapCpu _

/-- R110, R177: the old value is what stands at the effective address. -/
theorem oldValue_eq {w : Width} {m : Mode} {s : State} (hptr : pointerBytes s m = []) (h : Quiet s)
    (hreg : ∀ a ∈ dataBytes w (effAddr .rmw m s).1, NoRegister s a) :
    oldValue w m s = eaValue s.bus s.bus.mdr (effAddr .rmw m s).1 w := by
  rw [oldValue, readEA_toNat (effAddr_touches h .rmw m) hreg, effAddr_bus h hptr]

/-- What an operation makes of the old value in memory. -/
theorem modifyOp_rmwOld (k : Modify) (m : Mode) (s : State) :
    modifyOp k s.cpu.mw s.cpu.a (rmwOld m s) s.cpu.p =
      ⟨BitVec.ofNat 16 (modified k s.cpu.mw (low s.cpu.mw s.cpu.a) (oldValue s.cpu.mw m s) s.cpu.p).1,
        (modified k s.cpu.mw (low s.cpu.mw s.cpu.a) (oldValue s.cpu.mw m s) s.cpu.p).2⟩ :=
  modifyOp_eq (readEA_lt s.cpu.mw (effAddr .rmw m s).1 (effAddr .rmw m s).2) k s.cpu.a s.cpu.p

/-- Settles O27: every form is `modifyOperand` with its mnemonic's operation, which turns the old value (`oldValue_eq`) into
the new one (`modifyOp_rmwOld`) and stores it high byte first (`modifyOperand_writesTo`). -/
theorem rmwMemory : Obligations.RmwMemory := by
  unfold Obligations.RmwMemory
  intro i k m s h
  have hptr : pointerBytes s m = [] := pointerBytes_of_modifyMode h s
  refine ⟨modifyOperand m (modifyOp k) s, exec_of_modifyMode h s, ?flags, ?writes, fun hquiet hreg => ?old⟩
  case flags => rw [modifyOperand_cpu, modifyOp_rmwOld]
  case writes =>
    have hwrites := modifyOperand_writesTo (modifyOp k) hptr
    rw [modifyOp_rmwOld] at hwrites
    exact hwrites
  case old =>
    rw [oldValue_eq hptr hquiet hreg]
    cases s.cpu.mw with
    | w8 => rfl
    | w16 => rfl

end Sys2Proof.Machine
end

section
/-! PROOFS. The adder of ADC and SBC, binary and decimal (41_arith_logic.md R300, R301, R305, R306). -/

namespace Sys2Proof.Machine
open Sys2Proof.Claims

/-! ### From the running sum to the result -/

theorem modulus_cast (w : Width) : (modulus w : Int) = 2 ^ w.bits := by rw [modulus, Nat.cast_pow, Nat.cast_ofNat]

theorem trunc_ofInt_toNat (w : Width) (r : Int) : ((trunc w (BitVec.ofInt 16 r)).toNat : Int) = r % modulus w := by
  rw [trunc_toNat, BitVec.toNat_ofInt]
  cases w <;> simp only [modulus, Width.bits] <;> omega

theorem msb_trunc (w : Width) (v : Word) : msb w (trunc w v) = msb w v := by
  rw [msb_eq, msb_eq, trunc_toNat, Nat.mod_mod]

/-- V: the operands' signs agree and the sum's differs (R305). -/
theorem msb_overflow (w : Width) (a m r : Word) :
    msb w (~~~(a ^^^ m) &&& (a ^^^ r)) = (msb w a == msb w m && msb w a != msb w r) := by
  have hbit : w.bits - 1 < 16 := by cases w <;> decide
  simp only [msb, BitVec.getLsbD_and, BitVec.getLsbD_not, BitVec.getLsbD_xor, hbit, decide_true, Bool.true_and]
  cases a.getLsbD (w.bits - 1) <;> cases m.getLsbD (w.bits - 1) <;> rfl

/-- The sum before the last adjustment, r in R301 and R305. -/
def runningSum (w : Width) (sub dec : Bool) (A M : Nat) (c : Bool) : Int :=
  if dec then decSum w sub A M c else A + M + c.toNat

/-- The sum after it. -/
def finalSum (w : Width) (sub dec : Bool) (A M : Nat) (c : Bool) : Int :=
  if dec then decAdjust w sub (runningSum w sub dec A M c) else runningSum w sub dec A M c

theorem addCore_value (w : Width) (sub dec : Bool) (a m : Word) (c : Bool) :
    ((addCore w sub dec a m c).value.toNat : Int) = finalSum w sub dec (low w a) (low w m) c % modulus w := by
  rw [low, low, ← trunc_toNat, ← trunc_toNat]
  exact trunc_ofInt_toNat w _

theorem addCore_c (w : Width) (sub dec : Bool) (a m : Word) (c : Bool) :
    (addCore w sub dec a m c).c = decide (finalSum w sub dec (low w a) (low w m) c > modulus w - 1) := by
  rw [low, low, ← trunc_toNat, ← trunc_toNat, modulus_cast]
  rfl

/-- Whether a w-bit value has its top bit set. -/
def topBit (w : Width) (n : Nat) : Bool := decide (modulus w / 2 ≤ n)

theorem addCore_v {w : Width} {sub dec : Bool} {a m : Word} {c : Bool} {n : Nat}
    (hn : runningSum w sub dec (low w a) (low w m) c = n) :
    (addCore w sub dec a m c).v =
      (topBit w (low w a) == topBit w (low w m) && topBit w (low w a) != topBit w (n % modulus w)) := by
  have hv : (addCore w sub dec a m c).v = msb w (~~~(trunc w a ^^^ trunc w m) &&&
      (trunc w a ^^^ BitVec.ofInt 16 (runningSum w sub dec (trunc w a).toNat (trunc w m).toNat c))) := rfl
  rw [trunc_toNat, trunc_toNat, ← low, ← low, hn, BitVec.ofInt_natCast] at hv
  rw [hv, msb_overflow, msb_trunc, msb_trunc, msb_eq, msb_eq, msb_eq, ofNat_mod_modulus, topBit, topBit, topBit, low, low]

/-! ### Binary -/

theorem runningSum_binary (w : Width) (sub : Bool) (A M : Nat) (c : Bool) :
    runningSum w sub false A M c = (A + M + c.toNat : Nat) := by
  simp [runningSum]

theorem finalSum_binary (w : Width) (sub : Bool) (A M : Nat) (c : Bool) :
    finalSum w sub false A M c = (A + M + c.toNat : Nat) := runningSum_binary w sub A M c

theorem addCore_binary_value (w : Width) (sub : Bool) (a m : Word) (c : Bool) :
    (addCore w sub false a m c).value.toNat = (low w a + low w m + c.toNat) % modulus w := by
  have hvalue := addCore_value w sub false a m c
  rw [finalSum_binary] at hvalue
  exact_mod_cast hvalue

theorem addCore_binary_c (w : Width) (sub : Bool) (a m : Word) (c : Bool) :
    (addCore w sub false a m c).c = decide (modulus w ≤ low w a + low w m + c.toNat) := by
  rw [addCore_c, finalSum_binary, decide_eq_decide]
  omega

theorem signed_cases {w : Width} {n : Nat} (h : n < modulus w) :
    n < modulus w / 2 ∧ signed w n = n ∨ modulus w / 2 ≤ n ∧ signed w n = n - modulus w := by
  unfold signed
  rw [← Int.natCast_mod, Nat.mod_eq_of_lt h]
  split
  next hlow => exact .inl ⟨hlow, rfl⟩
  next hhigh => exact .inr ⟨Nat.le_of_not_lt hhigh, rfl⟩

/-- R305, R306: the sign rule for V says that the two's complement sum does not fit. -/
theorem overflow_eq_outside {w : Width} {A M : Nat} (hA : A < modulus w) (hM : M < modulus w) (c : Bool) :
    (topBit w A == topBit w M && topBit w A != topBit w ((A + M + c.toNat) % modulus w)) =
      outside w (signed w A + signed w M + c.toNat) := by
  have hc := Bool.toNat_lt c
  have hsA := signed_cases hA
  have hsM := signed_cases hM
  generalize signed w A = sA at hsA ⊢
  generalize signed w M = sM at hsM ⊢
  rw [Bool.eq_iff_iff, outside, decide_eq_true_iff]
  simp only [topBit, Bool.and_eq_true, beq_iff_eq, bne_iff_ne, ne_eq, decide_eq_decide]
  cases w <;> simp only [modulus, Width.bits] at hA hM hsA hsM ⊢ <;> omega

theorem addCore_binary_v (w : Width) (sub : Bool) (a m : Word) (c : Bool) :
    (addCore w sub false a m c).v = outside w (signed w (low w a) + signed w (low w m) + c.toNat) := by
  rw [addCore_v (runningSum_binary w sub _ _ c), overflow_eq_outside (low_lt _ _) (low_lt _ _)]

/-- The complement of a w-bit value is its negation less 1. -/
theorem signed_complement {w : Width} {M : Nat} (hM : M < modulus w) : signed w (modulus w - 1 - M) = -1 - signed w M := by
  have hcomplement : modulus w - 1 - M < modulus w := by omega
  have hhalf : modulus w = 2 * (modulus w / 2) := by cases w <;> rfl
  have hsM := signed_cases hM
  have hs := signed_cases hcomplement
  omega

/-- Settles O21: the addition is the exact sum; the subtraction is the addition of the complement 2^w - 1 - M (`low_not`),
whose two's complement value is -1 - M (`signed_complement`). -/
theorem addCoreBinary : Obligations.AddCoreBinary := by
  unfold Obligations.AddCoreBinary
  intro w a m c
  have hM := low_lt w m
  have hc := Bool.toNat_lt c
  refine ⟨⟨addCore_binary_value .., addCore_binary_c .., addCore_binary_v ..⟩, ?value, ?carry, ?overflow⟩
  case value =>
    rw [addCore_binary_value, low_not, Int.natCast_mod]
    have hsum : ((low w a + (modulus w - 1 - low w m) + c.toNat : Nat) : Int) =
        (low w a - low w m - (1 - c.toNat) : Int) + modulus w := by omega
    rw [hsum, Int.add_emod_right]
  case carry =>
    rw [addCore_binary_c, low_not, decide_eq_decide]
    omega
  case overflow =>
    rw [addCore_binary_v, low_not, signed_complement hM]
    congr 1
    ring

end Sys2Proof.Machine
end

section
/-! PROOFS. The decimal adder: R301's loop is the sum digit by digit, and on decimal operands the decimal sum or difference
(41_arith_logic.md R301, R305, R306). -/

namespace Sys2Proof.Machine
open Sys2Proof.Claims

/-! ### The adjustment of one digit -/

/-- R301's adjustment of the digit of weight P, on the running sum r. -/
def adjusted (sub : Bool) (P r : Int) : Int :=
  if sub then (if r ≤ 0x10 * P - 1 then r - 0x6 * P else r) else (if r > 0xA * P - 1 then r + 0x6 * P else r)

section
variable {l P u : Int} (h0 : 0 ≤ l) (hl : l < P)
include h0 hl

theorem mul_sub_one_lt_add_mul_iff (n : Int) : n * P - 1 < l + u * P ↔ n ≤ u := by
  have hP : 0 < P := h0.trans_lt hl
  have hdiv : (l + u * P) / P = u := by
    rw [Int.add_mul_ediv_right _ _ hP.ne', Int.ediv_eq_zero_of_lt h0 hl, zero_add]
  have hle : n ≤ (l + u * P) / P ↔ n * P ≤ l + u * P := Int.le_ediv_iff_mul_le hP
  rw [hdiv] at hle
  rw [hle, Int.sub_one_lt_iff]

theorem add_mul_emod_mul : (l + u * P) % (16 * P) = l + u % 16 * P := by
  have hsplit : l + u * P = l + u % 16 * P + 16 * P * (u / 16) := by
    conv_lhs => rw [← Int.emod_add_mul_ediv u 16]
    ring
  have hdigit : u % 16 * P ≤ 15 * P := Int.mul_le_mul_of_nonneg_right (by omega) (by omega)
  have hdigit0 : 0 ≤ u % 16 * P := Int.mul_nonneg (by omega) (by omega)
  rw [hsplit, Int.add_mul_emod_self_left]
  exact Int.emod_eq_of_lt (by omega) (by omega)

/-- The adjustment looks at the digit's own sum u only, not at the digits l below it. -/
theorem adjusted_add_mul (sub : Bool) : adjusted sub P (l + u * P) = l + adjusted sub 1 u * P := by
  cases sub with
  | true =>
    have hdigit : l + u * P ≤ 0x10 * P - 1 ↔ u ≤ 0x10 * 1 - 1 := by
      have := mul_sub_one_lt_add_mul_iff h0 hl (u := u) 16
      omega
    simp only [adjusted, if_true, hdigit]
    split <;> ring
  | false =>
    have hdigit : l + u * P > 0xA * P - 1 ↔ u > 0xA * 1 - 1 := by
      have := mul_sub_one_lt_add_mul_iff h0 hl (u := u) 10
      omega
    simp only [adjusted, Bool.false_eq_true, if_false, hdigit]
    split <;> ring

end

/-- A sum of two hexadecimal digits and a carry, after its adjustment: the digit is its low hexadecimal digit, and the carry
says that it has another. -/
theorem bcdDigit_eq_adjusted {t : Nat} (ht : t < 32) (sub : Bool) :
    ((bcdDigit sub t).1 : Int) = adjusted sub 1 t % 16 ∧ ((bcdDigit sub t).2 = true ↔ 16 ≤ adjusted sub 1 t) := by
  revert t
  cases sub <;> decide

/-! ### R301's loop -/

/-- The sum of the digits j of two words and of the carry into them. -/
def digitTotal (sub : Bool) (a m : Nat) (c : Bool) (j : Nat) : Nat := digit a j + digit m j + (bcdSum sub a m c j).2.toNat

theorem digitTotal_lt (sub : Bool) (a m : Nat) (c : Bool) (j : Nat) : digitTotal sub a m c j < 32 := by
  have := Bool.toNat_lt (bcdSum sub a m c j).2
  rw [digitTotal, digit, digit]
  omega

theorem bcdSum_succ (sub : Bool) (a m : Nat) (c : Bool) (d : Nat) :
    bcdSum sub a m c (d + 1) =
      ((bcdSum sub a m c d).1 + (bcdDigit sub (digitTotal sub a m c d)).1 * 16 ^ d,
        (bcdDigit sub (digitTotal sub a m c d)).2) := rfl

theorem bcdSum_lt (sub : Bool) (a m : Nat) (c : Bool) (d : Nat) : (bcdSum sub a m c d).1 < 16 ^ d := by
  induction d with
  | zero => exact Nat.one_pos
  | succ d ih =>
    have hdigit : (bcdDigit sub (digitTotal sub a m c d)).1 ≤ 15 := by
      have := (bcdDigit_eq_adjusted (digitTotal_lt sub a m c d) sub).1
      omega
    have hmul := Nat.mul_le_mul_right (16 ^ d) hdigit
    rw [bcdSum_succ, pow_succ]
    dsimp only
    omega

/-- R301's running sum when it comes to digit j: the digits below j are done, and digit j is not adjusted. -/
def runningAt (sub : Bool) (a m : Nat) (c : Bool) (j : Nat) : Nat :=
  (bcdSum sub a m c j).1 + digitTotal sub a m c j * 16 ^ j

/-- The adjustment of digit j makes the running sum the sum of the digits up to j, and leaves its carry above them. -/
theorem adjusted_runningAt (sub : Bool) (a m : Nat) (c : Bool) (j : Nat) :
    adjusted sub (16 ^ j) (runningAt sub a m c j) % 16 ^ (j + 1) = ((bcdSum sub a m c (j + 1)).1 : Int) ∧
      (adjusted sub (16 ^ j) (runningAt sub a m c j) > 16 ^ (j + 1) - 1 ↔ (bcdSum sub a m c (j + 1)).2 = true) := by
  have hlow : ((bcdSum sub a m c j).1 : Int) < 16 ^ j := mod_cast bcdSum_lt sub a m c j
  have hlow0 : (0 : Int) ≤ (bcdSum sub a m c j).1 := Int.natCast_nonneg _
  obtain ⟨hdigit, hcarry⟩ := bcdDigit_eq_adjusted (digitTotal_lt sub a m c j) sub
  rw [runningAt, Nat.cast_add, Nat.cast_mul, Nat.cast_pow, Nat.cast_ofNat, adjusted_add_mul hlow0 hlow, pow_succ',
    add_mul_emod_mul hlow0 hlow, gt_iff_lt, mul_sub_one_lt_add_mul_iff hlow0 hlow, bcdSum_succ, hcarry, ← hdigit]
  exact ⟨by push_cast; rfl, Iff.rfl⟩

theorem decStep_eq (sub : Bool) (a m k : Nat) (r : Int) :
    decStep sub a m k r = ((a / 2 ^ k % 16 * 2 ^ k : Nat) : Int) + ((m / 2 ^ k % 16 * 2 ^ k : Nat) : Int) +
      (if adjusted sub (2 ^ (k - 4)) r > 0x10 * 2 ^ (k - 4) - 1 then 2 ^ k else 0) +
      adjusted sub (2 ^ (k - 4)) r % 2 ^ k := by
  cases sub <;> simp [decStep, adjusted]

/-- One turn of R301's loop goes from one digit to the next. -/
theorem decStep_runningAt (sub : Bool) (a m : Nat) (c : Bool) (j : Nat) :
    decStep sub a m (4 * (j + 1)) (runningAt sub a m c j) = runningAt sub a m c (j + 1) := by
  obtain ⟨hdigits, hcarry⟩ := adjusted_runningAt sub a m c j
  have hweight : (2 : Int) ^ (4 * (j + 1) - 4) = 16 ^ j := by rw [Nat.mul_succ, Nat.add_sub_cancel, pow_mul]; rfl
  have hnext : (2 : Int) ^ (4 * (j + 1)) = 16 ^ (j + 1) := by rw [pow_mul]; rfl
  have hnextNat : 2 ^ (4 * (j + 1)) = 16 ^ (j + 1) := by rw [pow_mul]; rfl
  rw [decStep_eq, hweight, hnext, hnextNat, hdigits, ← pow_succ', if_congr hcarry rfl rfl]
  -- Both sides are now the digits j + 1, the carry into them and the digits below, at their weights.
  generalize hs : bcdSum sub a m c (j + 1) = s
  obtain ⟨l, carry⟩ := s
  rw [runningAt, digitTotal, hs, digit, digit]
  cases carry <;> simp <;> ring

theorem decSum_eq (w : Width) (sub : Bool) (a m : Nat) (c : Bool) :
    decSum w sub a m c = runningAt sub a m c (digits w - 1) := by
  have hstart : ((a % 16 : Nat) : Int) + (m % 16 : Nat) + (c.toNat : Int) = runningAt sub a m c 0 := by
    simp [runningAt, digitTotal, bcdSum, digit]
  have hstep := decStep_runningAt sub a m c
  rw [decSum, hstart]
  cases w with
  | w8 => exact hstep 0
  | w16 =>
    show decStep sub a m (4 * (2 + 1)) (decStep sub a m (4 * (1 + 1)) (decStep sub a m (4 * (0 + 1)) _)) = _
    rw [hstep, hstep, hstep]
    rfl

theorem decAdjust_eq (w : Width) (sub : Bool) (r : Int) : decAdjust w sub r = adjusted sub (16 ^ (digits w - 1)) r := by
  cases w <;> rfl

/-! ### The decimal adder on every operand -/

theorem digits_eq_succ (w : Width) : digits w = digits w - 1 + 1 := by cases w <;> rfl

theorem modulus_eq_pow_digits (w : Width) : modulus w = 16 ^ (digits w - 1 + 1) := by cases w <;> rfl

theorem runningSum_decimal (w : Width) (sub : Bool) (A M : Nat) (c : Bool) :
    runningSum w sub true A M c = runningAt sub A M c (digits w - 1) := decSum_eq w sub A M c

theorem finalSum_decimal (w : Width) (sub : Bool) (A M : Nat) (c : Bool) :
    finalSum w sub true A M c = adjusted sub (16 ^ (digits w - 1)) (runningAt sub A M c (digits w - 1)) := by
  rw [← runningSum_decimal, ← decAdjust_eq]
  rfl

theorem addCore_decimal_value (w : Width) (sub : Bool) (a m : Word) (c : Bool) :
    (addCore w sub true a m c).value.toNat = (bcdSum sub (low w a) (low w m) c (digits w)).1 := by
  have hvalue := addCore_value w sub true a m c
  rw [finalSum_decimal, modulus_eq_pow_digits, Nat.cast_pow, Nat.cast_ofNat,
    (adjusted_runningAt sub (low w a) (low w m) c _).1, ← digits_eq_succ] at hvalue
  exact_mod_cast hvalue

theorem addCore_decimal_c (w : Width) (sub : Bool) (a m : Word) (c : Bool) :
    (addCore w sub true a m c).c = (bcdSum sub (low w a) (low w m) c (digits w)).2 := by
  have hcarry := (adjusted_runningAt sub (low w a) (low w m) c (digits w - 1)).2
  rw [addCore_c, finalSum_decimal, modulus_eq_pow_digits, Nat.cast_pow, Nat.cast_ofNat, ← digits_eq_succ]
  rw [← digits_eq_succ] at hcarry
  rw [Bool.eq_iff_iff, decide_eq_true_iff, hcarry]

theorem topBit_eq {w : Width} {n : Nat} (h : n < modulus w) : topBit w n = decide (8 ≤ digit n (digits w - 1)) := by
  rw [topBit, digit, decide_eq_decide]
  cases w <;> simp only [modulus, digits, Width.bits] at h ⊢ <;> omega

theorem topBit_runningAt (w : Width) (sub : Bool) (A M : Nat) (c : Bool) :
    topBit w (runningAt sub A M c (digits w - 1) % modulus w) =
      decide (8 ≤ digitTotal sub A M c (digits w - 1) % 16) := by
  have hlow := bcdSum_lt sub A M c (digits w - 1)
  rw [topBit, runningAt, decide_eq_decide]
  cases w <;> simp only [modulus, digits, Width.bits] at hlow ⊢ <;> omega

theorem addCore_decimal_v (w : Width) (sub : Bool) (a m : Word) (c : Bool) :
    (addCore w sub true a m c).v =
      (decide (8 ≤ digit (low w a) (digits w - 1)) == decide (8 ≤ digit (low w m) (digits w - 1)) &&
        decide (8 ≤ digit (low w a) (digits w - 1)) !=
          decide (8 ≤ digitTotal sub (low w a) (low w m) c (digits w - 1) % 16)) := by
  rw [addCore_v (runningSum_decimal w sub _ _ c), topBit_eq (low_lt w a), topBit_eq (low_lt w m), topBit_runningAt]

/-! ### Decimal numbers -/

/-- The number whose decimal digits are e. -/
def decimal (e : Nat → Nat) (d : Nat) : Nat := ∑ k ∈ Finset.range d, e k * 10 ^ k

theorem decimal_succ (e : Nat → Nat) (d : Nat) : decimal e (d + 1) = decimal e d + e d * 10 ^ d :=
  Finset.sum_range_succ _ _

theorem bcd_eq_decimal (n d : Nat) : bcd n d = decimal (digit n) d := by
  induction d with
  | zero => rfl
  | succ d ih => rw [bcd, ih, decimal_succ]

section
variable {e : Nat → Nat} {d : Nat} (he : ∀ k < d, e k ≤ 9)
include he

theorem decimal_add_nines : decimal e d + decimal (fun k => 9 - e k) d + 1 = 10 ^ d := by
  induction d with
  | zero => rfl
  | succ d ih =>
    have hdigit : e d * 10 ^ d + (9 - e d) * 10 ^ d = 9 * 10 ^ d := by
      rw [← Nat.add_mul, Nat.add_sub_cancel' (he d (Nat.lt_succ_self d))]
    have hrest := ih fun k hk => he k (hk.trans (Nat.lt_succ_self d))
    rw [decimal_succ, decimal_succ, pow_succ]
    omega

theorem decimal_lt : decimal e d < 10 ^ d := by
  have := decimal_add_nines he
  omega

theorem decimal_succ_div (x : Nat) : (decimal e d + x * 10 ^ d) / 10 ^ d = x := by
  rw [Nat.add_mul_div_right _ _ (Nat.pow_pos (by decide)), Nat.div_eq_of_lt (decimal_lt he), Nat.zero_add]

theorem decimal_succ_mod (x : Nat) : (decimal e d + x * 10 ^ d) % 10 ^ d = decimal e d := by
  rw [Nat.add_mul_mod_self_right, Nat.mod_eq_of_lt (decimal_lt he)]

end

/-- `toBcd` shows the d low decimal digits. -/
theorem toBcd_congr {v v' : Nat} : ∀ {d : Nat}, v % 10 ^ d = v' % 10 ^ d → toBcd v d = toBcd v' d
  | 0, _ => rfl
  | d + 1, h => by
    have hlow : v % 10 ^ d = v' % 10 ^ d := by
      rw [← Nat.mod_mod_of_dvd v (pow_dvd_pow 10 d.le_succ), h, Nat.mod_mod_of_dvd v' (pow_dvd_pow 10 d.le_succ)]
    have htop : v / 10 ^ d % 10 = v' / 10 ^ d % 10 := by
      rw [← Nat.mod_mul_right_div_self, ← pow_succ, h, pow_succ, Nat.mod_mul_right_div_self]
    rw [toBcd, toBcd, toBcd_congr hlow, htop]

theorem toBcd_add_mul (v y d : Nat) : toBcd (v + y * 10 ^ d) (d + 1) = toBcd v d + (v / 10 ^ d + y) % 10 * 16 ^ d := by
  rw [toBcd, toBcd_congr (Nat.add_mul_mod_self_right v y _), Nat.add_mul_div_right _ _ (Nat.pow_pos (by decide))]

theorem pow_succ_le_add_mul_iff (v y d : Nat) : 10 ^ (d + 1) ≤ v + y * 10 ^ d ↔ 10 ≤ v / 10 ^ d + y := by
  rw [pow_succ', ← Nat.le_div_iff_mul_le (Nat.pow_pos (by decide)),
    Nat.add_mul_div_right _ _ (Nat.pow_pos (by decide))]

/-- The carry out of d decimal digits. -/
theorem carry_eq_div {v d : Nat} (hv : v < 2 * 10 ^ d) : (decide (10 ^ d ≤ v)).toNat = v / 10 ^ d := by
  by_cases h : 10 ^ d ≤ v
  · rw [decide_eq_true h, Nat.div_eq_of_lt_le (k := 1) (by omega) (by omega), Bool.toNat_true]
  · rw [decide_eq_false h, Nat.div_eq_of_lt (by omega), Bool.toNat_false]

/-! ### The decimal adder on decimal operands -/

/-- The hexadecimal digit the adder takes for the decimal digit x of its second operand: in a subtraction the complement
15 - (9 - x). -/
def adderDigit (sub : Bool) (x : Nat) : Nat := if sub then x + 6 else x

/-- A sum x of two decimal digits and a carry gives the decimal digit and the decimal carry. -/
theorem bcdDigit_adderDigit {x : Nat} (hx : x < 20) (sub : Bool) :
    bcdDigit sub (adderDigit sub x) = (x % 10, decide (10 ≤ x)) := by
  revert x
  cases sub <;> decide

/-- Two digits and a carry sum as the decimal digits they stand for. -/
theorem add_adderDigit (sub : Bool) (x y z : Nat) : x + adderDigit sub y + z = adderDigit sub (z + (x + y)) := by
  cases sub <;> simp only [adderDigit, Bool.false_eq_true, if_true, if_false] <;> omega

/-- The decimal digits of the nines' complement, which a subtraction adds. -/
def nines (n k : Nat) : Nat := 9 - digit n k

section
variable {n d : Nat} (h : ∀ k < d, digit n k ≤ 9)
include h

theorem bcd_lt : bcd n d < 10 ^ d := by
  rw [bcd_eq_decimal]
  exact decimal_lt h

theorem bcd_succ_div : bcd n (d + 1) / 10 ^ d = digit n d := by
  rw [bcd, bcd_eq_decimal, decimal_succ_div h]

theorem bcd_succ_mod : bcd n (d + 1) % 10 ^ d = bcd n d := by
  rw [bcd, bcd_eq_decimal, decimal_succ_mod h]

theorem bcd_add_nines : bcd n d + decimal (nines n) d + 1 = 10 ^ d := by
  rw [bcd_eq_decimal]
  exact decimal_add_nines h

end

/-- R301 on a decimal first operand and a second one that stands for the decimal digits e: the digits and the carry of the
decimal sum. -/
theorem bcdSum_eq_toBcd {sub : Bool} {a m : Nat} {e : Nat → Nat} (c : Bool) : ∀ {d : Nat}, (∀ k < d, digit a k ≤ 9) →
    (∀ k < d, e k ≤ 9) → (∀ k < d, digit m k = adderDigit sub (e k)) →
    bcdSum sub a m c d =
      (toBcd (bcd a d + decimal e d + c.toNat) d, decide (10 ^ d ≤ bcd a d + decimal e d + c.toNat))
  | 0, _, _, _ => by cases c <;> rfl
  | d + 1, ha, he, hm => by
    rw [Nat.forall_lt_succ_right] at ha he hm
    have hA := bcd_lt ha.1
    have hE := decimal_lt he.1
    have hc := Bool.toNat_lt c
    have ih := bcdSum_eq_toBcd c ha.1 he.1 hm.1
    have hsum : bcd a (d + 1) + decimal e (d + 1) + c.toNat =
        bcd a d + decimal e d + c.toNat + (digit a d + e d) * 10 ^ d := by
      rw [bcd, decimal_succ]
      ring
    have hv : bcd a d + decimal e d + c.toNat < 2 * 10 ^ d := by omega
    rw [hsum]
    generalize bcd a d + decimal e d + c.toNat = v at ih hv ⊢
    have htotal : digitTotal sub a m c d = adderDigit sub (v / 10 ^ d + (digit a d + e d)) := by
      rw [digitTotal, ih, hm.2, carry_eq_div hv, add_adderDigit]
    have hx : v / 10 ^ d + (digit a d + e d) < 20 := by
      have := Nat.div_lt_of_lt_mul (Nat.mul_comm 2 _ ▸ hv)
      omega
    rw [bcdSum_succ, htotal, bcdDigit_adderDigit hx, ih, toBcd_add_mul, decide_eq_decide.2 (pow_succ_le_add_mul_iff _ _ _)]

/-- The decimal adder on such operands: V looks at the top digits, k, and the carry into them. -/
theorem addCore_decimal {w : Width} {sub : Bool} {a m : Word} {e : Nat → Nat} {k : Nat} (c : Bool)
    (hd : digits w = k + 1) (ha : ∀ j < k + 1, digit (low w a) j ≤ 9) (he : ∀ j < k + 1, e j ≤ 9)
    (hm : ∀ j < k + 1, digit (low w m) j = adderDigit sub (e j)) :
    let A := bcd (low w a) (k + 1)
    let r := addCore w sub true a m c
    let carryIn := if 10 ^ k ≤ A % 10 ^ k + decimal e k + c.toNat then 1 else 0
    r.value.toNat = toBcd (A + decimal e (k + 1) + c.toNat) (k + 1) ∧
      r.c = decide (10 ^ (k + 1) ≤ A + decimal e (k + 1) + c.toNat) ∧
      r.v = (decide (8 ≤ A / 10 ^ k) == decide (8 ≤ digit (low w m) k) &&
        decide (8 ≤ A / 10 ^ k) != decide (8 ≤ (A / 10 ^ k + digit (low w m) k + carryIn) % 16)) := by
  have hsum := bcdSum_eq_toBcd c ha he hm
  refine ⟨?value, ?carry, ?overflow⟩
  case value => rw [addCore_decimal_value, hd, hsum]
  case carry => rw [addCore_decimal_c, hd, hsum]
  case overflow =>
    rw [Nat.forall_lt_succ_right] at ha he hm
    have hcarryIn : (bcdSum sub (low w a) (low w m) c k).2.toNat =
        if 10 ^ k ≤ bcd (low w a) k + decimal e k + c.toNat then 1 else 0 := by
      rw [bcdSum_eq_toBcd c ha.1 he.1 hm.1]
      exact Bool.cond_decide _ _ _
    rw [addCore_decimal_v, hd, Nat.add_sub_cancel, digitTotal, hcarryIn, bcd_succ_div ha.1, bcd_succ_mod ha.1]

theorem digit_low_not {w : Width} (m : Word) {k : Nat} (hk : k < digits w) :
    digit (low w (~~~m)) k = 15 - digit (low w m) k := by
  have hM := low_lt w m
  rw [low_not, digit, digit]
  cases w <;> simp only [digits, modulus, Width.bits] at hk hM ⊢ <;> interval_cases k <;> omega

/-- Settles O22: R301's loop is the sum digit by digit (`adjusted_runningAt`); on decimal operands that is the decimal sum
(`addCore_decimal`), where a subtraction adds the nines' complement (`bcd_add_nines`). -/
theorem addCoreDecimal : Obligations.AddCoreDecimal := by
  unfold Obligations.AddCoreDecimal
  refine ⟨fun w sub a m c => ⟨addCore_decimal_value .., addCore_decimal_c .., addCore_decimal_v ..⟩,
    fun w a m c ha hm => ?_⟩
  obtain ⟨k, hd⟩ : ∃ k, digits w = k + 1 := ⟨_, digits_eq_succ w⟩
  rw [validBcd, hd] at ha hm
  have hnines : ∀ j < k + 1, nines (low w m) j ≤ 9 := fun j _ => Nat.sub_le _ _
  have hcomplement : ∀ j < k + 1, digit (low w (~~~m)) j = adderDigit true (nines (low w m) j) := fun j hj => by
    have := hm j hj
    rw [digit_low_not m (hd ▸ hj), adderDigit, if_pos rfl, nines]
    omega
  have hadd := addCore_decimal (sub := false) c hd ha hm fun _ _ => rfl
  have hsub := addCore_decimal c hd ha hnines hcomplement
  have hM := bcd_add_nines hm
  rw [Nat.forall_lt_succ_right] at hm
  have hMlow := bcd_add_nines hm.1
  have htop : k < digits w := by omega
  -- The sum with the nines' complement is the difference plus 10^d - 1, so it carries exactly where nothing is borrowed.
  have hdiff : bcd (low w a) (k + 1) + 10 ^ (k + 1) - bcd (low w m) (k + 1) - 1 + c.toNat =
      bcd (low w a) (k + 1) + decimal (nines (low w m)) (k + 1) + c.toNat := by omega
  have hcarry : bcd (low w m) (k + 1) + 1 ≤ bcd (low w a) (k + 1) + c.toNat ↔
      10 ^ (k + 1) ≤ bcd (low w a) (k + 1) + decimal (nines (low w m)) (k + 1) + c.toNat := by omega
  have hnoBorrow : bcd (low w m) k + 1 ≤ bcd (low w a) (k + 1) % 10 ^ k + c.toNat ↔
      10 ^ k ≤ bcd (low w a) (k + 1) % 10 ^ k + decimal (nines (low w m)) k + c.toNat := by omega
  simp only [← bcd_eq_decimal] at hadd
  simp only [digit_low_not m htop] at hsub
  simp only [hd, Nat.add_sub_cancel, toBcd_congr (Nat.mod_mod _ _), bcd_succ_div hm.1, bcd_succ_mod hm.1, hdiff, hcarry,
    hnoBorrow]
  exact ⟨hadd, hsub⟩

end Sys2Proof.Machine
end

section
/-! PROOFS. Branches and jumps (42_control_transfer.md R360, R361, R365-R376), and what the bytes of a read are after a
sequence of stores (20_memory.md R110). -/

namespace Sys2Proof.Machine
open Sys2Proof.Claims

/-! ### Bytes read after stores -/

section
variable {s t : State} {reads : List Addr} {stores : List (Addr × Byte)} (h : Touches s reads stores t)
include h

/-- R110: a byte that the sequence has stored counts as it then is. -/
theorem Touches.read8_stored {a : Addr} (ha : NoRegister s a) :
    (Machine.read8 a t).1 = busByte (storesOf s.bus stores) t.bus.mdr a := by
  rw [Machine.read8_value h.quiet, busRead_value ((h.noRegister_iff a).2 ha), byteOr, h.bus]
  rfl

theorem Touches.readPair_lo (f : Cpu → Cpu) {a0 a1 : Addr} (h0 : NoRegister s a0) :
    lo (Machine.readPair f a0 a1 t).1 = busByte (storesOf s.bus stores) t.bus.mdr a0 :=
  (lo_word _ _).trans (h.read8_stored h0)

theorem Touches.readPair_hi (f : Cpu → Cpu) {a0 a1 : Addr} (h1 : NoRegister s a1) :
    hi (Machine.readPair f a0 a1 t).1 =
      busByte (storesOf s.bus stores) (lo (Machine.readPair f a0 a1 t).1) a1 := by
  have hlow : ((Machine.read8 a0 t).2.mapCpu f).bus.mdr = lo (Machine.readPair f a0 a1 t).1 :=
    (h.read8_mdr a0).trans (lo_word _ _).symm
  rw [← hlow]
  exact (hi_word _ _).trans (((h.read8 a0).mapCpu f).read8_stored h1)

theorem Touches.readPair_mdr (f : Cpu → Cpu) (a0 a1 : Addr) :
    (Machine.readPair f a0 a1 t).2.bus.mdr = hi (Machine.readPair f a0 a1 t).1 :=
  (((h.read8 a0).mapCpu f).read8_mdr a1).trans (hi_word _ _).symm

theorem Touches.write8_mdr {a : Addr} (ha : NoRegister s a) (v : Byte) : (Machine.write8 a v t).bus.mdr = v := by
  rw [write8_bus h.quiet ((h.noRegister_iff a).2 ha)]

end

theorem toNat_eq_lo_add_hi (v : Word) : v.toNat = (lo v).toNat + 256 * (hi v).toNat := by
  rw [← word_toNat, word_hi_lo]

theorem mapCpu_id (s : State) : s.mapCpu id = s := rfl

theorem readVector_eq (bank : Byte) (o : Word) (s : State) :
    readVector bank o s = readPair id (long bank o) (long bank (o + 1)) s := by
  simp only [readVector, readPair, mapCpu_id]

theorem Touches.readVector {s t : State} {reads : List Addr} {stores : List (Addr × Byte)}
    (h : Touches s reads stores t) (bank : Byte) (o : Word) :
    Touches s (reads ++ [long bank o, long bank (o + 1)]) stores (readVector bank o t).2 := by
  rw [readVector_eq]
  exact h.readPair id _ _

/-- A word and then the byte above it, read with the last byte on the bus still that of s. -/
theorem Touches.readPair_read8_toNat {s t : State} {reads : List Addr} (h : Touches s reads [] t)
    (hmdr : t.bus.mdr = s.bus.mdr) (f g : Cpu → Cpu) {a0 a1 a2 : Addr} (h0 : NoRegister s a0) (h1 : NoRegister s a1)
    (h2 : NoRegister s a2) :
    (Machine.read8 a2 ((Machine.readPair f a0 a1 t).2.mapCpu g)).1.toNat * 65536 +
      (Machine.readPair f a0 a1 t).1.toNat = pointer24Nat s a0 a1 a2 := by
  rw [((h.readPair f a0 a1).mapCpu g).read8_value h2, mapCpu_bus, h.readPair_mdr, toNat_eq_lo_add_hi,
    h.readPair_hi f h1, h.readPair_lo f h0, hmdr, Nat.add_comm, Nat.mul_comm _ 65536]
  rfl

/-! ### Branches -/

theorem exec_of_branchOf {i : Instr} {taken : Bool} {r : Byte} {s : State} (h : branchOf s.cpu.p i = some (taken, r)) :
    exec i s = .next (branchIf taken r s) := by
  unfold branchOf at h
  split at h <;> cases h <;> rfl

theorem add_sext_eq (v : Word) (r : Byte) :
    v + sext r = BitVec.ofNat 16 (v.toNat + r.toNat + if r.toNat < 128 then 0 else 65280) := by
  apply BitVec.eq_of_toNat_eq
  have hext : (sext r).toNat = r.toNat + if r.toNat < 128 then 0 else 65280 := by
    have hsign : r.msb = decide (128 ≤ r.toNat) := BitVec.msb_eq_decide r
    rw [sext, BitVec.toNat_signExtend, BitVec.toNat_setWidth_of_le (by decide), hsign]
    rcases Nat.lt_or_ge r.toNat 128 with hpos | hneg
    · simp [hpos]
    · simp [hneg, Nat.not_lt.2 hneg]
  rw [BitVec.toNat_add, hext, BitVec.toNat_ofNat, Nat.add_assoc]

/-- R361: the page changes when the high bytes differ. -/
theorem hi_ne_iff (v w : Word) : hi v ≠ hi w ↔ v.toNat / 256 ≠ w.toNat / 256 := by
  rw [ne_eq, ← BitVec.toNat_inj, hi_toNat, hi_toNat]

/-- R361: one internal cycle, and one more in emulation mode when the page changes. -/
theorem branchTo_eq (target : Word) (s : State) :
    branchTo target s =
      { idles (if s.cpu.e = true ∧ target.toNat / 256 ≠ s.cpu.pc.toNat / 256 then 2 else 1) s with
        cpu := { s.cpu with pc := target } } := by
  have hpage : (s.cpu.e && decide (hi target ≠ hi s.cpu.pc)) = true ↔
      s.cpu.e = true ∧ target.toNat / 256 ≠ s.cpu.pc.toNat / 256 := by
    rw [Bool.and_eq_true_iff, decide_eq_true_iff, hi_ne_iff]
  have hcycles : ∀ n, { idles n s with cpu := { s.cpu with pc := target } } =
      (idles n s).mapCpu (fun c => c.setPc target) := fun n => by
    rw [State.mapCpu, idles_cpu, Cpu.setPc]
  rw [hcycles, branchTo, if_congr hpage rfl rfl]
  split
  · rfl
  · rfl

theorem withCpu_idles_readsOnly (n : Nat) (c : Cpu) (s : State) : ReadsOnly s { idles n s with cpu := c } [] :=
  readsOnly_of_touches fun h => ((Touches.refl h).idles n).mapCpu fun _ => c

/-- Settles O37: every conditional branch and BRA is `branchIf` of its condition (`exec_of_branchOf`), and a taken one
passes the internal cycles of `branchTo_eq`; internal cycles read and store nothing. -/
theorem branches : Obligations.Branches := by
  unfold Obligations.Branches
  refine ⟨fun i r s h => ?notTaken, fun i r s h => ⟨?taken, withCpu_idles_readsOnly _ _ s⟩,
    fun r s => ⟨?long, withCpu_idles_readsOnly _ _ s⟩⟩
  case notTaken => exact exec_of_branchOf h
  case taken =>
    rw [exec_of_branchOf h, branchIf, if_pos rfl, branchTo_eq, add_sext_eq]
  case long =>
    have hsum : BitVec.ofNat 16 (s.cpu.pc.toNat + r.toNat) = s.cpu.pc + r := (BitVec.add_def _ _).symm
    have hlong : exec (.brl r) s = .next ((idle s).mapCpu fun c => c.setPc (c.pc + r)) := rfl
    rw [hsum, hlong, State.mapCpu, idle_cpu]
    rfl

/-! ### Jumps -/

theorem offOf_eq_ofNat (a : Addr) : offOf a = BitVec.ofNat 16 a.toNat := by
  rw [offOf, BitVec.ofNat_toNat]

theorem bankOf_eq_ofNat (a : Addr) : bankOf a = BitVec.ofNat 8 (a.toNat / 65536) := by
  apply BitVec.eq_of_toNat_eq
  rw [bankOf, BitVec.extractLsb'_toNat, Nat.shiftRight_eq_div_pow, BitVec.toNat_ofNat]

/-- A pointer that is read after n internal cycles becomes PC, and nothing else is written. -/
theorem jump_through_pointer {i : Instr} {s : State} {bank : Byte} {o : Word} (n : Nat)
    (hexec : exec i s = .next ((readVector bank o (idles n s)).2.mapCpu fun c =>
      c.setPc (readVector bank o (idles n s)).1)) :
    ∃ (t : State) (v : Word), exec i s = .next t ∧ t.cpu = { s.cpu with pc := v } ∧
      ReadsOnly s t [long bank o, long bank (o + 1)] ∧
      (Quiet s → NoRegister s (long bank o) → NoRegister s (long bank (o + 1)) →
        v.toNat = pointerNat s (long bank o) (long bank (o + 1))) := by
  refine ⟨_, (readVector bank o (idles n s)).1, hexec, ?cpu, readsOnly_of_touches fun h => ?reads, fun h h0 h1 => ?value⟩
  case cpu => rw [mapCpu_cpu, readVector_cpu, idles_cpu, Cpu.setPc]
  case reads => exact (((Touches.refl h).idles n).readVector _ _).mapCpu _
  case value =>
    rw [readVector_eq, ← readPair_idles_toNat h n id id h0 h1, mapCpu_id]

theorem exec_jmpAbsind (o : Word) (s : State) : exec (.jmpAbsind o) s = .next (jumpIndirect o s) := rfl

theorem exec_jmpAbsxind (o : Word) (s : State) : exec (.jmpAbsxind o) s = .next (jumpIndexed o s) := rfl

theorem exec_jmlAbsindl (o : Word) (s : State) : exec (.jmlAbsindl o) s = .next (jumpLongIndirect o s) := rfl

/-- The bank byte of JML [addr] (R376). -/
def jumpBank (o : Word) (s : State) : Byte × State := read8 (long 0x00 (o + 2)) (readVector 0x00 o s).2

theorem jumpLongIndirect_eq (o : Word) (s : State) :
    jumpLongIndirect o s = (jumpBank o s).2.mapCpu fun c =>
      { c with pc := (readVector 0x00 o s).1, pb := (jumpBank o s).1 } := by
  simp only [jumpLongIndirect, jumpBank]

theorem jumpLongIndirect_toNat (o : Word) {s : State} (h : Quiet s) (h0 : NoRegister s (long 0x00 o))
    (h1 : NoRegister s (long 0x00 (o + 1))) (h2 : NoRegister s (long 0x00 (o + 2))) :
    (jumpBank o s).1.toNat * 65536 + (readVector 0x00 o s).1.toNat =
      pointer24Nat s (long 0x00 o) (long 0x00 (o + 1)) (long 0x00 (o + 2)) := by
  have hpointer := (Touches.refl h).readPair_read8_toNat rfl id id h0 h1 h2
  rw [mapCpu_id, ← readVector_eq] at hpointer
  exact hpointer

/-- Settles O38: a jump writes PC, and PB where it is a JML; the indirect forms take them from the pointer they have read
(`jump_through_pointer`, `jumpLongIndirect_toNat`). -/
theorem jumps : Obligations.Jumps := by
  unfold Obligations.Jumps
  refine ⟨fun o s => rfl, fun o s => ?long, fun o s => ⟨?indirect, ?indexed, ?longIndirect⟩⟩
  case long =>
    rw [← offOf_eq_ofNat, ← bankOf_eq_ofNat]
    rfl
  case indirect =>
    have hexec := exec_jmpAbsind o s
    simp only [jumpIndirect] at hexec
    exact jump_through_pointer 0 hexec
  case indexed =>
    have hexec := exec_jmpAbsxind o s
    simp only [jumpIndexed, idle_cpu] at hexec
    exact jump_through_pointer 1 hexec
  case longIndirect =>
    refine ⟨jumpLongIndirect o s, (readVector 0x00 o s).1, (jumpBank o s).1, exec_jmlAbsindl o s, ?cpu,
      readsOnly_of_touches fun h => ?reads, fun h => jumpLongIndirect_toNat o h⟩
    case cpu => rw [jumpLongIndirect_eq, mapCpu_cpu, jumpBank, read8_cpu, readVector_cpu]
    case reads =>
      rw [jumpLongIndirect_eq]
      exact (((Touches.refl h).readVector 0x00 o).read8 _).mapCpu _

end Sys2Proof.Machine
end

section
/-! PROOFS. Calls and software interrupts (42_control_transfer.md R362, R377, R378, R382, R383; 60_exceptions.md R567,
R570): bytes pushed one after another, and what is read after them. -/

namespace Sys2Proof.Machine
open Sys2Proof.Claims

/-! ### Bytes pushed one after another -/

/-- A way to push a byte: the k-th of a sequence is written at its slot, and leaves the registers after k + 1 pushes. -/
def PushesAt (push : Byte → State → State) (slot : Nat → Addr) (regs : Nat → Cpu) : Prop :=
  ∀ (t : State) (k : Nat) (v : Byte), t.cpu = regs k → push v t = (write8 (slot k) v t).mapCpu fun _ => regs (k + 1)

theorem push8_pushesAt (c : Cpu) : PushesAt push8 (pushSlot c) c.pushed := fun _ _ v h => push8_eq h v

theorem push8Full_pushesAt (c : Cpu) : PushesAt push8Full (fullPushSlot c) c.pushedFull := fun _ _ v h =>
  push8Full_eq h v

/-- The bytes of a list pushed one after another. -/
def pushList (push : Byte → State → State) (l : List Byte) (t : State) : State := l.foldl (fun u v => push v u) t

theorem pushList_cons (push : Byte → State → State) (v : Byte) (l : List Byte) (t : State) :
    pushList push (v :: l) t = pushList push l (push v t) := rfl

theorem pushList_append_singleton (push : Byte → State → State) (l : List Byte) (v : Byte) (t : State) :
    pushList push (l ++ [v]) t = push v (pushList push l t) := List.foldl_concat ..

theorem push16_eq_pushList (v : Word) (t : State) : push16 v t = pushList push8 (highFirst v) t := by
  simp only [push16, pushList, highFirst, List.foldl_cons, List.foldl_nil]

theorem push16Full_eq_pushList (v : Word) (t : State) : push16Full v t = pushList push8Full (highFirst v) t := by
  simp only [push16Full, pushList, highFirst, List.foldl_cons, List.foldl_nil]

theorem mem_pushedAt (slot : Nat → Addr) {l : List Byte} {k : Nat} {v : Byte} (h : l[k]? = some v) :
    (slot k, v) ∈ pushedAt slot l :=
  List.mem_map.2 ⟨(v, k), List.mk_mem_zipIdx_iff_getElem?.2 h, rfl⟩

section
variable {push : Byte → State → State} {slot : Nat → Addr} {regs : Nat → Cpu} (hpush : PushesAt push slot regs)
include hpush

theorem pushList_cpu {t : State} {k : Nat} (h : t.cpu = regs k) (l : List Byte) :
    (pushList push l t).cpu = regs (k + l.length) := by
  induction l generalizing t k with
  | nil => exact h
  | cons v l ih =>
    have hfirst : (push v t).cpu = regs (k + 1) := by rw [hpush t k v h, mapCpu_cpu]
    rw [List.length_cons, Nat.add_comm l.length, ← Nat.add_assoc]
    exact ih hfirst

theorem Touches.pushList {s t : State} {reads : List Addr} {before l : List Byte}
    (h : Touches s reads (pushedAt slot before) t) (hcpu : t.cpu = regs before.length)
    (hreg : ∀ p ∈ pushedAt slot (before ++ l), NoRegister s p.1) :
    Touches s reads (pushedAt slot (before ++ l)) (pushList push l t) := by
  induction l generalizing t before with
  | nil =>
    rw [List.append_nil]
    exact h
  | cons v l ih =>
    have hslot : NoRegister s (slot before.length) := hreg (slot before.length, v) (mem_pushedAt slot (by simp))
    have hsplit : before ++ v :: l = (before ++ [v]) ++ l := by simp
    rw [hsplit] at hreg ⊢
    rw [pushList_cons]
    refine ih (t := push v t) ?first ?cpu hreg
    case first =>
      rw [hpush t _ v hcpu]
      exact h.pushAt hslot v _
    case cpu => rw [hpush t _ v hcpu, mapCpu_cpu, List.length_append, List.length_singleton]

/-- The byte pushed last is the last on the bus. -/
theorem Touches.pushList_mdr {s t : State} {reads : List Addr} {l : List Byte} {v : Byte} (h : Touches s reads [] t)
    (hcpu : t.cpu = regs 0) (hreg : ∀ p ∈ pushedAt slot (l ++ [v]), NoRegister s p.1) :
    (Machine.pushList push (l ++ [v]) t).bus.mdr = v := by
  have hslot : NoRegister s (slot l.length) := hreg (slot l.length, v) (mem_pushedAt slot (by simp))
  rw [pushedAt_append_singleton] at hreg
  have hbefore : Touches s reads (pushedAt slot l) (Machine.pushList push l t) :=
    Touches.pushList hpush (before := []) h hcpu fun p hp => hreg p (List.mem_append_left _ hp)
  have hlast := hpush _ l.length v ((pushList_cpu hpush hcpu l).trans (by rw [Nat.zero_add]))
  rw [pushList_append_singleton, hlast, mapCpu_bus, hbefore.write8_mdr hslot v]

end

theorem pushed_of_pos (c : Cpu) {k : Nat} (h : 0 < k) : c.pushed k = { c with s := pushedS c k } := by
  obtain ⟨n, rfl⟩ := Nat.exists_eq_succ_of_ne_zero h.ne'
  rfl

/-! ### JSR -/

theorem callAbsolute_cpu (o : Word) (s : State) :
    (callAbsolute o s).cpu = { s.cpu with s := pushedS s.cpu 2, pc := o } := by
  have hpushed : ∀ v, (push16 v (idle s)).cpu = s.cpu.pushed 2 := fun v => by
    rw [push16_eq_pushList]
    exact pushList_cpu (push8_pushesAt s.cpu) (k := 0) (idle_cpu s) (highFirst v)
  rw [callAbsolute, mapCpu_cpu, hpushed]
  rfl

theorem callAbsolute_writesTo (o : Word) (s : State) :
    WritesTo s (callAbsolute o s) [] (pushedAt (pushSlot s.cpu) (highFirst (s.cpu.pc - 1))) :=
  writesTo_of_touches fun h _ hreg => by
    unfold callAbsolute
    dsimp only
    rw [idle_cpu]
    exact ((Touches.refl h).idle.push16 (idle_cpu s) hreg).mapCpu _

theorem Touches.fetch8 {s t : State} {reads : List Addr} {stores : List (Addr × Byte)} (h : Touches s reads stores t) :
    Touches s (reads ++ [long t.cpu.pb t.cpu.pc]) stores (fetch8 t).2 :=
  (h.read8 (long t.cpu.pb t.cpu.pc)).mapCpu fun c => { c with pc := c.pc + 1 }

/-- JSR (abs,X) up to its late operand byte: the return address is pushed, then the byte fetched (R377). -/
def fetchedAfterPush (s : State) : Byte × State := fetch8 (pushFull s.cpu.pc s)

theorem fetchedAfterPush_cpu (s : State) :
    (fetchedAfterPush s).2.cpu = { s.cpu with s := pushedS s.cpu 2, pc := s.cpu.pc + 1 } := by
  rw [fetchedAfterPush, fetch8_cpu, pushFull_cpu _ rfl]

/-- JSR (abs,X) up to its jump: the pointer is read in the program bank (R377). -/
def calledTarget (o : Word) (s : State) : Word × State :=
  readVector s.cpu.pb (word (fetchedAfterPush s).1 (lo o) + s.cpu.x) (idle (fetchedAfterPush s).2)

theorem callIndexed_eq (o : Word) (s : State) :
    callIndexed o s = (calledTarget o s).2.mapCpu fun c => c.setPc (calledTarget o s).1 := by
  have hcpu : (idle (fetch8 (forceS (push16Full s.cpu.pc s))).2).cpu =
      { s.cpu with s := pushedS s.cpu 2, pc := s.cpu.pc + 1 } := (idle_cpu _).trans (fetchedAfterPush_cpu s)
  simp only [callIndexed, calledTarget, fetchedAfterPush, pushFull, hcpu]

section
variable {s : State} (h : Quiet s) (hreg : ∀ q ∈ pushedAt (fullPushSlot s.cpu) (highFirst s.cpu.pc), NoRegister s q.1)
include h hreg

theorem pushFull_pc_mdr : (pushFull s.cpu.pc s).bus.mdr = lo s.cpu.pc := by
  have hlast := Touches.pushList_mdr (push8Full_pushesAt s.cpu) (l := [hi s.cpu.pc]) (.refl h)
    (cpu_pushedFull_zero rfl) hreg
  rw [pushFull, forceS, mapCpu_bus, push16Full_eq_pushList]
  exact hlast

theorem fetchedAfterPush_touches :
    Touches s [long s.cpu.pb s.cpu.pc] (pushedAt (fullPushSlot s.cpu) (highFirst s.cpu.pc)) (fetchedAfterPush s).2 := by
  have hfetch := ((Touches.refl h).pushFull rfl hreg).fetch8
  rw [pushFull_cpu _ rfl] at hfetch
  exact hfetch

theorem fetchedAfterPush_value (hcode : NoRegister s (long s.cpu.pb s.cpu.pc)) :
    (fetchedAfterPush s).1 =
      busByte (storesOf s.bus (pushedAt (fullPushSlot s.cpu) (highFirst s.cpu.pc))) (lo s.cpu.pc)
        (long s.cpu.pb s.cpu.pc) := by
  have hread := ((Touches.refl h).pushFull rfl hreg).read8_stored hcode
  rw [pushFull_pc_mdr h hreg] at hread
  rw [← hread, fetchedAfterPush, fetch8, pushFull_cpu _ rfl]

theorem fetchedAfterPush_idle_mdr : (idle (fetchedAfterPush s).2).bus.mdr = (fetchedAfterPush s).1 := by
  rw [idle_bus (fetchedAfterPush_touches h hreg).quiet]
  rw [fetchedAfterPush, fetch8, mapCpu_bus, ((Touches.refl h).pushFull rfl hreg).read8_mdr]

end

section
variable (o : Word) {s : State} (h : Quiet s)
  (hreg : ∀ q ∈ pushedAt (fullPushSlot s.cpu) (highFirst s.cpu.pc), NoRegister s q.1)
include h hreg

theorem calledTarget_lo (h0 : NoRegister s (long s.cpu.pb (word (fetchedAfterPush s).1 (lo o) + s.cpu.x))) :
    lo (calledTarget o s).1 =
      busByte (storesOf s.bus (pushedAt (fullPushSlot s.cpu) (highFirst s.cpu.pc))) (fetchedAfterPush s).1
        (long s.cpu.pb (word (fetchedAfterPush s).1 (lo o) + s.cpu.x)) := by
  rw [calledTarget, readVector_eq, (fetchedAfterPush_touches h hreg).idle.readPair_lo id h0,
    fetchedAfterPush_idle_mdr h hreg]

theorem calledTarget_hi (h1 : NoRegister s (long s.cpu.pb (word (fetchedAfterPush s).1 (lo o) + s.cpu.x + 1))) :
    hi (calledTarget o s).1 =
      busByte (storesOf s.bus (pushedAt (fullPushSlot s.cpu) (highFirst s.cpu.pc))) (lo (calledTarget o s).1)
        (long s.cpu.pb (word (fetchedAfterPush s).1 (lo o) + s.cpu.x + 1)) := by
  rw [calledTarget, readVector_eq, (fetchedAfterPush_touches h hreg).idle.readPair_hi id h1]

theorem callIndexed_touches :
    Touches s
      [long s.cpu.pb s.cpu.pc, long s.cpu.pb (word (fetchedAfterPush s).1 (lo o) + s.cpu.x),
        long s.cpu.pb (word (fetchedAfterPush s).1 (lo o) + s.cpu.x + 1)]
      (pushedAt (fullPushSlot s.cpu) (highFirst s.cpu.pc)) (callIndexed o s) := by
  rw [callIndexed_eq, calledTarget]
  exact ((fetchedAfterPush_touches h hreg).idle.readVector _ _).mapCpu _

end

/-! ### JSL -/

/-- JSL up to its late operand byte: PB is pushed, then the bank byte fetched (R378). -/
def fetchedAfterBank (s : State) : Byte × State := fetch8 (idle (push8Full s.cpu.pb s))

theorem bankPushed_cpu (s : State) : (idle (push8Full s.cpu.pb s)).cpu = s.cpu.pushedFull 1 :=
  (idle_cpu _).trans (push8Full_pushed (cpu_pushedFull_zero rfl) _)

/-- The fetch steps over the late byte. -/
theorem fetchedAfterBank_cpu (s : State) :
    (fetchedAfterBank s).2.cpu = { s.cpu with pc := s.cpu.pc + 1 }.pushedFull 1 := by
  rw [fetchedAfterBank, fetch8_cpu, bankPushed_cpu]
  rfl

theorem callLong_eq (o : Addr) (s : State) :
    callLong o s = (pushFull s.cpu.pc (fetchedAfterBank s).2).mapCpu fun c =>
      { c with pc := offOf o, pb := (fetchedAfterBank s).1 } := by
  have hpc : (fetch8 (idle (push8Full s.cpu.pb s))).2.cpu.pc - 1 = s.cpu.pc := by
    rw [← fetchedAfterBank, fetchedAfterBank_cpu]
    exact BitVec.add_sub_cancel _ _
  simp only [callLong, hpc, fetchedAfterBank, pushFull]

theorem callLong_cpu (o : Addr) (s : State) :
    (callLong o s).cpu = { s.cpu with s := pushedS s.cpu 3, pc := offOf o, pb := (fetchedAfterBank s).1 } := by
  have hpushed := pushList_cpu (push8Full_pushesAt _) (fetchedAfterBank_cpu s) (highFirst s.cpu.pc)
  rw [← push16Full_eq_pushList] at hpushed
  rw [callLong_eq, mapCpu_cpu, pushFull, forceS, mapCpu_cpu, hpushed, setS_pushedFull]
  rfl

section
variable {s : State} (h : Quiet s) (hreg : NoRegister s (fullPushSlot s.cpu 0))
include h hreg

theorem bankPushed_touches :
    Touches s [] (pushedAt (fullPushSlot s.cpu) [s.cpu.pb]) (idle (push8Full s.cpu.pb s)) := by
  rw [push8Full_eq (cpu_pushedFull_zero rfl)]
  exact (Touches.pushAt (l := []) (.refl h) hreg _ _).idle

theorem fetchedAfterBank_touches :
    Touches s [long s.cpu.pb s.cpu.pc] (pushedAt (fullPushSlot s.cpu) [s.cpu.pb]) (fetchedAfterBank s).2 := by
  have hfetch := (bankPushed_touches h hreg).fetch8
  rw [bankPushed_cpu] at hfetch
  exact hfetch

theorem fetchedAfterBank_value (hcode : NoRegister s (long s.cpu.pb s.cpu.pc)) :
    (fetchedAfterBank s).1 =
      busByte (storesOf s.bus [(fullPushSlot s.cpu 0, s.cpu.pb)]) s.cpu.pb (long s.cpu.pb s.cpu.pc) := by
  have hwrite := (Touches.refl h).write8 hreg s.cpu.pb
  have hmdr : (idle (push8Full s.cpu.pb s)).bus.mdr = s.cpu.pb := by
    rw [push8Full_eq (cpu_pushedFull_zero rfl), idle_bus (hwrite.mapCpu _).quiet, mapCpu_bus]
    exact (Touches.refl h).write8_mdr hreg _
  rw [fetchedAfterBank, fetch8, bankPushed_cpu]
  dsimp only [Cpu.pushedFull]
  rw [(bankPushed_touches h hreg).read8_stored hcode, hmdr]
  rfl

end

theorem callLong_writesTo (o : Addr) (s : State) :
    WritesTo s (callLong o s) [long s.cpu.pb s.cpu.pc]
      (pushedAt (fullPushSlot s.cpu) (s.cpu.pb :: highFirst s.cpu.pc)) := by
  refine writesTo_of_touches fun h _ hreg => ?_
  have hbank : NoRegister s (fullPushSlot s.cpu 0) := hreg (fullPushSlot s.cpu 0, s.cpu.pb) (mem_pushedAt _ rfl)
  have hpushed := Touches.pushList (push8Full_pushesAt { s.cpu with pc := s.cpu.pc + 1 }) (before := [s.cpu.pb])
    (l := highFirst s.cpu.pc) (fetchedAfterBank_touches h hbank) (fetchedAfterBank_cpu s) hreg
  rw [← push16Full_eq_pushList] at hpushed
  rw [callLong_eq, pushFull, forceS]
  exact (hpushed.mapCpu _).mapCpu _

/-- Settles O39: JSR pushes with `push16` after one internal cycle. The calls that fetch a byte late push their first bytes
and then fetch it (`fetchedAfterPush`, `fetchedAfterBank`), so that it and the pointer after it are read from memory with
those bytes stored. -/
theorem calls : Obligations.Calls := by
  unfold Obligations.Calls
  refine ⟨fun o s => ⟨_, rfl, callAbsolute_cpu o s, callAbsolute_writesTo o s⟩,
    fun o s => ⟨callIndexed o s, (fetchedAfterPush s).1, (calledTarget o s).1, rfl, ?indexed, ?frame⟩,
    fun o s => ⟨callLong o s, (fetchedAfterBank s).1, rfl, ?long, fun h hreg => fetchedAfterBank_value h hreg,
      callLong_writesTo o s⟩⟩
  case indexed =>
    rw [callIndexed_eq, mapCpu_cpu, calledTarget, readVector_cpu, idle_cpu, fetchedAfterPush_cpu]
    rfl
  case frame =>
    intro pushed b p h hok hreg hcode
    refine ⟨fetchedAfterPush_value h hreg hcode, fun h0 h1 => ?_⟩
    have ht := callIndexed_touches o h hreg
    have hreads : ∀ a ∈ [long s.cpu.pb s.cpu.pc, long s.cpu.pb p, long s.cpu.pb (p + 1)], NoRegister s a :=
      List.forall_mem_cons.2 ⟨hcode, List.forall_mem_cons.2 ⟨h0, List.forall_mem_singleton.2 h1⟩⟩
    exact ⟨calledTarget_lo o h hreg h0, calledTarget_hi o h hreg h1, ht.stores_of_memoryOk hok, ht.special hreads,
      ht.quiet⟩
  case long => rw [callLong_cpu, offOf_eq_ofNat]

/-! ### BRK and COP -/

theorem pushFrame_eq_pushList (pCopy : Byte) (s : State) :
    pushFrame pCopy s = pushList push8 (frameOf s.cpu pCopy) s := by
  have hpc : (push8 s.cpu.pb s).cpu.pc = s.cpu.pc := by
    rw [push8_cpu]
    rfl
  simp only [pushFrame, frameOf, highFirst, pushList, push16]
  cases s.cpu.e with
  | true => rfl
  | false =>
    simp only [Bool.false_eq_true, if_false, hpc]
    rfl

/-- A frame ends in the copy of P. -/
theorem frameOf_eq (c : Cpu) (pCopy : Byte) :
    frameOf c pCopy = ((if c.e then [] else [c.pb]) ++ highFirst c.pc) ++ [pCopy] := rfl

theorem frameOf_length_pos (c : Cpu) (pCopy : Byte) : 0 < (frameOf c pCopy).length := by simp [frameOf]

theorem setVector_special (v : Word) {s t : State} (h : t.intr.special = s.intr.special) :
    (setVector v t).intr.special = (setVector v s).intr.special := by
  simp only [Intr.special, Prod.mk.injEq] at h ⊢
  obtain ⟨hnmi, hirq, hvirq, hhirq, hhtime, hvtime, -, hreset⟩ := h
  exact ⟨hnmi, hirq, hvirq, hhirq, hhtime, hvtime, rfl, hreset⟩

theorem SameSpecial.setVector {s t : State} (h : SameSpecial s t) (v : Word) :
    SameSpecial (setVector v s) (setVector v t) := by
  rw [sameSpecial_iff] at h ⊢
  obtain ⟨hio, hparams, hmaps, hmmio, hintr, hjoy, halu, hch⟩ := h
  exact ⟨hio, hparams, hmaps, hmmio, setVector_special v hintr, hjoy, halu, hch⟩

/-- A vector written within a sequence of cycles might as well have been written before it. -/
theorem Touches.setVector {s t : State} {reads : List Addr} {stores : List (Addr × Byte)} (h : Touches s reads stores t)
    (v : Word) : Touches (setVector v s) reads stores (setVector v t) :=
  ⟨h.quiet, h.bus, fun hreg => (h.special hreg).setVector v⟩

/-- The entry into a handler up to the read of its vector (R382, R570). -/
def beforeVector (pCopy : Byte) (vector : Word) (s : State) : State :=
  setVector vector ((pushFrame pCopy s).mapCpu Cpu.enter)

theorem enterHandler_eq (pCopy : Byte) (vector : Word) (s : State) :
    enterHandler pCopy vector s =
      (readVector 0x00 vector (beforeVector pCopy vector s)).2.mapCpu fun c =>
        c.setPc (readVector 0x00 vector (beforeVector pCopy vector s)).1 := by
  simp only [enterHandler, beforeVector]

section
variable {s t : State} (hcpu : t.cpu = s.cpu) (pCopy : Byte) (vector : Word)
include hcpu

theorem enterHandler_cpu :
    (enterHandler pCopy vector t).cpu = { s.cpu with
      s := pushedS s.cpu (frameOf s.cpu pCopy).length
      p := { s.cpu.p with i := true, d := false }
      pb := 0x00
      pc := (readVector 0x00 vector (beforeVector pCopy vector t)).1 } := by
  have hframe := pushList_cpu (push8_pushesAt s.cpu) (k := 0) hcpu (frameOf s.cpu pCopy)
  rw [Nat.zero_add, pushed_of_pos _ (frameOf_length_pos _ _)] at hframe
  have hbefore : (beforeVector pCopy vector t).cpu =
      Cpu.enter { s.cpu with s := pushedS s.cpu (frameOf s.cpu pCopy).length } := by
    rw [beforeVector, setVector_cpu, mapCpu_cpu, pushFrame_eq_pushList, hcpu, hframe]
  rw [enterHandler_eq, mapCpu_cpu, readVector_cpu, hbefore]
  rfl

variable (h : Touches s [] [] t) (hreg : ∀ q ∈ pushedAt (pushSlot s.cpu) (frameOf s.cpu pCopy), NoRegister s q.1)
include h hreg

theorem beforeVector_touches :
    Touches (setVector vector s) [] (pushedAt (pushSlot s.cpu) (frameOf s.cpu pCopy)) (beforeVector pCopy vector t) := by
  rw [beforeVector, pushFrame_eq_pushList, hcpu]
  exact ((Touches.pushList (push8_pushesAt s.cpu) (before := []) h hcpu hreg).mapCpu _).setVector vector

theorem beforeVector_mdr : (beforeVector pCopy vector t).bus.mdr = pCopy := by
  rw [beforeVector, setVector_bus, mapCpu_bus, pushFrame_eq_pushList, hcpu, frameOf_eq]
  exact Touches.pushList_mdr (push8_pushesAt s.cpu) h hcpu hreg

end

/-- R382, R567, R570: the entry into a handler, from a state that s has reached by internal cycles only. -/
theorem enterHandler_enters {s t : State} (hcpu : t.cpu = s.cpu) (h : Quiet s → Touches s [] [] t) (pCopy : Byte)
    (vector : Word) : Enters (setVector vector s) (enterHandler pCopy vector t) pCopy vector := by
  refine ⟨lo (readVector 0x00 vector (beforeVector pCopy vector t)).1,
    hi (readVector 0x00 vector (beforeVector pCopy vector t)).1, ?cpu, fun hquiet hok hreg h0 h1 => ?frame⟩
  case cpu =>
    rw [word_hi_lo, setVector_cpu]
    exact enterHandler_cpu hcpu pCopy vector
  case frame =>
    have hbefore := beforeVector_touches hcpu pCopy vector (h hquiet) hreg
    have ht : Touches (setVector vector s) [long 0x00 vector, long 0x00 (vector + 1)]
        (pushedAt (pushSlot s.cpu) (frameOf s.cpu pCopy)) (enterHandler pCopy vector t) := by
      rw [enterHandler_eq]
      exact (hbefore.readVector 0x00 vector).mapCpu _
    refine ⟨?low, ?high, ht.stores_of_memoryOk hok,
      ht.special (List.forall_mem_cons.2 ⟨h0, List.forall_mem_singleton.2 h1⟩), ht.quiet⟩
    case low =>
      rw [readVector_eq, hbefore.readPair_lo id h0, beforeVector_mdr hcpu pCopy vector (h hquiet) hreg]
      rfl
    case high =>
      rw [readVector_eq, hbefore.readPair_hi id h1]
      rfl

/-- R36: bits 5 and 4 of the copy are 1 in emulation mode. -/
theorem softwareP_eq (c : Cpu) :
    softwareP c = BitVec.ofNat 8 (if c.e then statusByte { c.p with m := true, x := true } else statusByte c.p) := by
  have hbits : ∀ p : Status, p.toByte ||| 0x30 = ({ p with m := true, x := true } : Status).toByte := by
    rintro ⟨n, v, m, x, d, i, z, c⟩
    revert n v m x d i z c
    decide
  rw [softwareP, hbits, apply_ite (BitVec.ofNat 8), toByte_eq_statusByte, toByte_eq_statusByte]

/-- Settles O41: both are the shared entry into a handler (`enterHandler_enters`) with their own vectors. -/
theorem brkCop : Obligations.BrkCop := by
  unfold Obligations.BrkCop
  intro o s pCopy brk cop
  have hcopy : softwareP s.cpu = pCopy := softwareP_eq s.cpu
  rw [← hcopy]
  refine ⟨⟨enterHandler (softwareP s.cpu) (brkVector s.cpu.e) s, rfl, ?brk⟩,
    ⟨enterHandler (softwareP s.cpu) (copVector s.cpu.e) s, rfl, ?cop⟩⟩
  case brk => exact enterHandler_enters rfl .refl (softwareP s.cpu) (brkVector s.cpu.e)
  case cop => exact enterHandler_enters rfl .refl (softwareP s.cpu) (copVector s.cpu.e)

end Sys2Proof.Machine
end

section
/-! PROOFS. Returns (42_control_transfer.md R379-R381; 43_system_flags.md R400; 60_exceptions.md R571). -/

namespace Sys2Proof.Machine
open Sys2Proof.Claims

/-! ### RTS and RTL -/

theorem returnShort_cpu (s : State) :
    (returnShort s).cpu = { s.cpu with s := pulledS s.cpu 2, pc := (pull16 (idles 2 s)).1 + 1 } := by
  simp only [returnShort, mapCpu_cpu, idle_cpu, pull16_idles_eq, readPair_cpu, Cpu.pulled, Cpu.setPc]

theorem returnShort_touches {s : State} (h : Quiet s) :
    Touches s [pullSlot s.cpu 1, pullSlot s.cpu 2] [] (returnShort s) := by
  simp only [returnShort, pull16_idles_eq]
  exact (((((Touches.refl h).idles 2).mapCpu _).readPair _ _ _).idle).mapCpu _

/-- The bank byte RTL pulls, with the full S (R380). -/
def pulledBank (s : State) : Byte × State := pull8Full (pull16Full (idles 2 s)).2

theorem pull16Full_idles_eq (s : State) :
    pull16Full (idles 2 s) =
      readPair (fun _ => s.cpu.pulledFull 2) (fullPullSlot s.cpu 1) (fullPullSlot s.cpu 2)
        ((idles 2 s).mapCpu fun _ => s.cpu.pulledFull 1) :=
  pull16Full_eq (idles_cpu 2 s)

theorem pulledBank_eq (s : State) :
    pulledBank s =
      read8 (fullPullSlot s.cpu 3) ((pull16Full (idles 2 s)).2.mapCpu fun _ => s.cpu.pulledFull 3) :=
  pull8Full_eq (by rw [pull16Full_idles_eq, readPair_cpu])

theorem returnLong_eq (s : State) :
    returnLong s = forceS ((pulledBank s).2.mapCpu fun c =>
      { c with pc := (pull16Full (idles 2 s)).1 + 1, pb := (pulledBank s).1 }) := by
  simp only [returnLong, pulledBank]

theorem returnLong_cpu (s : State) :
    (returnLong s).cpu = { s.cpu with
      s := pulledS s.cpu 3, pc := (pull16Full (idles 2 s)).1 + 1, pb := (pulledBank s).1 } := by
  have hpulled : (pulledBank s).2.cpu = s.cpu.pulledFull 3 := by rw [pulledBank_eq, read8_cpu, mapCpu_cpu]
  rw [returnLong_eq, forceS, mapCpu_cpu, mapCpu_cpu, hpulled]
  generalize (pull16Full (idles 2 s)).1 + 1 = v
  generalize (pulledBank s).1 = b
  exact setS_pulledFull { s.cpu with pc := v, pb := b } 3

section
variable {s : State} (h : Quiet s)
include h

theorem returnLong_touches :
    Touches s [fullPullSlot s.cpu 1, fullPullSlot s.cpu 2, fullPullSlot s.cpu 3] [] (returnLong s) := by
  rw [returnLong_eq, forceS, pulledBank_eq, pull16Full_idles_eq]
  exact (((((((Touches.refl h).idles 2).mapCpu _).readPair _ _ _).mapCpu _).read8 _).mapCpu _).mapCpu _

theorem returnLong_toNat (h1 : NoRegister s (fullPullSlot s.cpu 1)) (h2 : NoRegister s (fullPullSlot s.cpu 2))
    (h3 : NoRegister s (fullPullSlot s.cpu 3)) :
    (pulledBank s).1.toNat * 65536 + (pull16Full (idles 2 s)).1.toNat =
      pointer24Nat s (fullPullSlot s.cpu 1) (fullPullSlot s.cpu 2) (fullPullSlot s.cpu 3) := by
  rw [pulledBank_eq, pull16Full_idles_eq]
  exact (((Touches.refl h).idles 2).mapCpu _).readPair_read8_toNat (congrArg Bus.mdr (idles_bus h 2)) _ _ h1 h2 h3

end

/-! ### RTI -/

/-- R35. -/
theorem ofByte_eq_statusOf (b : Byte) : Status.ofByte b = statusOf b.toNat := by
  rw [← zext_toNat, ← ofByte_lo, lo_zext]

theorem pull16_eq_of_pulled {t : State} {c : Cpu} {k : Nat} (h : t.cpu = c.pulled k) :
    pull16 t = readPair (fun _ => c.pulled (k + 2)) (pullSlot c (k + 1)) (pullSlot c (k + 2))
      (t.mapCpu fun _ => c.pulled (k + 1)) := by
  simp only [pull16, readPair]
  rw [pull8_eq (pull8_pulled h), pull8_eq h]

/-- The byte RTI writes to P (R381). -/
def pulledP (s : State) : Byte := (pull8 (idles 2 s)).1

/-- The registers of RTI once P is written, S aside: what follows is pulled in the mode this P keeps. -/
def restoredP (s : State) : Cpu := forced s.cpu (statusOf (pulledP s).toNat)

/-- RTI after its pull of P. -/
def afterP (s : State) : State := (pull8 (idles 2 s)).2.mapCpu fun c => c.writeP (Status.ofByte (pulledP s))

/-- RTI after its pull of PC. -/
def afterPc (s : State) : State := (pull16 (afterP s)).2.mapCpu fun c => c.setPc (pull16 (afterP s)).1

theorem returnFromInterrupt_eq (s : State) :
    returnFromInterrupt s =
      if (afterPc s).cpu.e then afterPc s
      else (pull8 (afterPc s)).2.mapCpu fun c => { c with pb := (pull8 (afterPc s)).1 } := by
  unfold returnFromInterrupt
  dsimp only
  rw [← pulledP, ← afterP, ← afterPc]

/-- `write_P` neither reads nor writes S. -/
theorem afterP_eq (s : State) :
    afterP s =
      (read8 (pullSlot s.cpu 1) ((idles 2 s).mapCpu fun _ => s.cpu.pulled 1)).2.mapCpu fun _ =>
        (restoredP s).pulled 1 := by
  rw [afterP, pull8_idles_eq]
  refine mapCpu_eq_const _ _ ?_
  rw [read8_cpu, mapCpu_cpu, writeP_eq_forced, ofByte_eq_statusOf]
  rfl

theorem pull16_afterP_eq (s : State) :
    pull16 (afterP s) =
      readPair (fun _ => (restoredP s).pulled 3) (pullSlot s.cpu 2) (pullSlot s.cpu 3)
        ((afterP s).mapCpu fun _ => (restoredP s).pulled 2) :=
  pull16_eq_of_pulled (k := 1) (by rw [afterP_eq, mapCpu_cpu])

theorem setPc_pulled (c : Cpu) (v : Word) (k : Nat) : (c.pulled k).setPc v = { c with pc := v }.pulled k := by
  cases k with
  | zero => rfl
  | succ k => rfl

/-- `write_P` and a jump commute with the pulls: they write neither S nor E. -/
theorem forced_pulled (c : Cpu) (p : Status) (v : Word) (k : Nat) :
    { forced c p with pc := v }.pulled (k + 1) = forced { c with s := pulledS c (k + 1), pc := v } p := rfl

theorem forced_withPb (c : Cpu) (p : Status) (b : Byte) :
    { forced c p with pb := b } = forced { c with pb := b } p := rfl

theorem pullSlot_forced (c : Cpu) (p : Status) (v : Word) (k : Nat) :
    pullSlot { forced c p with pc := v } k = pullSlot c k := rfl

theorem afterPc_cpu (s : State) :
    (afterPc s).cpu = { restoredP s with pc := (pull16 (afterP s)).1 }.pulled 3 := by
  have hpulled : (pull16 (afterP s)).2.cpu = (restoredP s).pulled 3 := by rw [pull16_afterP_eq, readPair_cpu]
  rw [afterPc, mapCpu_cpu, hpulled, setPc_pulled]

theorem afterPc_e (s : State) : (afterPc s).cpu.e = s.cpu.e := by
  rw [afterPc_cpu]
  rfl

theorem pull8_afterPc_eq (s : State) :
    pull8 (afterPc s) =
      read8 (pullSlot s.cpu 4) ((afterPc s).mapCpu fun _ =>
        { restoredP s with pc := (pull16 (afterP s)).1 }.pulled 4) := by
  rw [pull8_eq (afterPc_cpu s), restoredP, pullSlot_forced]

theorem returnFromInterrupt_cpu (s : State) :
    (returnFromInterrupt s).cpu =
      forced { s.cpu with
          s := pulledS s.cpu (if s.cpu.e then 3 else 4)
          pc := (pull16 (afterP s)).1
          pb := if s.cpu.e then s.cpu.pb else (pull8 (afterPc s)).1 }
        (statusOf (pulledP s).toNat) := by
  rw [returnFromInterrupt_eq, afterPc_e]
  cases he : s.cpu.e with
  | true =>
    simp only [if_true]
    rw [afterPc_cpu, restoredP, forced_pulled]
  | false =>
    simp only [Bool.false_eq_true, if_false]
    generalize hb : (pull8 (afterPc s)).1 = b
    rw [mapCpu_cpu, pull8_afterPc_eq, read8_cpu, mapCpu_cpu, restoredP, forced_pulled, forced_withPb]

section
variable {s : State} (h : Quiet s)
include h

theorem afterP_touches : Touches s [pullSlot s.cpu 1] [] (afterP s) := by
  rw [afterP_eq]
  exact ((((Touches.refl h).idles 2).mapCpu _).read8 _).mapCpu _

theorem afterPc_touches : Touches s [pullSlot s.cpu 1, pullSlot s.cpu 2, pullSlot s.cpu 3] [] (afterPc s) := by
  rw [afterPc, pull16_afterP_eq]
  exact (((afterP_touches h).mapCpu _).readPair _ _ _).mapCpu _

theorem returnFromInterrupt_touches :
    Touches s
      (if s.cpu.e then [pullSlot s.cpu 1, pullSlot s.cpu 2, pullSlot s.cpu 3]
        else [pullSlot s.cpu 1, pullSlot s.cpu 2, pullSlot s.cpu 3, pullSlot s.cpu 4]) [] (returnFromInterrupt s) := by
  rw [returnFromInterrupt_eq, afterPc_e]
  split
  · exact afterPc_touches h
  · rw [pull8_afterPc_eq]
    exact (((afterPc_touches h).mapCpu _).read8 _).mapCpu _

theorem pulledP_eq (h1 : NoRegister s (pullSlot s.cpu 1)) :
    pulledP s = busByte s.bus s.bus.mdr (pullSlot s.cpu 1) := by
  rw [pulledP, pull8_idles_eq, (((Touches.refl h).idles 2).mapCpu _).read8_value h1, mapCpu_bus, idles_bus h]

theorem afterP_mdr : (afterP s).bus.mdr = pulledP s := by
  rw [afterP, mapCpu_bus, pull8_idles_eq, (((Touches.refl h).idles 2).mapCpu _).read8_mdr, pulledP, pull8_idles_eq]

/-- R381: P, PC low and PC high are the first three bytes pulled. -/
theorem returned_toNat (h1 : NoRegister s (pullSlot s.cpu 1)) (h2 : NoRegister s (pullSlot s.cpu 2))
    (h3 : NoRegister s (pullSlot s.cpu 3)) :
    (pull16 (afterP s)).1.toNat * 256 + (pulledP s).toNat =
      pointer24Nat s (pullSlot s.cpu 1) (pullSlot s.cpu 2) (pullSlot s.cpu 3) := by
  rw [pull16_afterP_eq, ((afterP_touches h).mapCpu _).readPair_toNat _ h2 h3, mapCpu_bus, afterP_mdr h,
    pulledP_eq h h1, pointer24Nat]
  ring

theorem returnedBank_eq (h4 : NoRegister s (pullSlot s.cpu 4)) :
    (pull8 (afterPc s)).1 = busByte s.bus (hi (pull16 (afterP s)).1) (pullSlot s.cpu 4) := by
  have hmdr : (afterPc s).bus.mdr = hi (pull16 (afterP s)).1 := by
    rw [afterPc, mapCpu_bus, pull16_afterP_eq]
    exact ((afterP_touches h).mapCpu _).readPair_mdr _ _ _
  rw [pull8_afterPc_eq, ((afterPc_touches h).mapCpu _).read8_value h4, mapCpu_bus, hmdr]

end

/-- Settles O40: RTS and RTL are a pull and a jump one past what is pulled. RTI pulls P first, and `write_P` leaves S and E
(`afterP_eq`), so that what follows is pulled at the slots counted from the S the instruction began with. -/
theorem returns : Obligations.Returns := by
  unfold Obligations.Returns
  intro s c a1 a2 a3 a4 f1 f2 f3
  refine ⟨⟨returnShort s, (pull16 (idles 2 s)).1, rfl, returnShort_cpu s, readsOnly_of_touches returnShort_touches,
      fun h h1 h2 => ?short⟩,
    ⟨returnLong s, (pull16Full (idles 2 s)).1, (pulledBank s).1, rfl, returnLong_cpu s,
      readsOnly_of_touches returnLong_touches, returnLong_toNat⟩,
    returnFromInterrupt s, pulledP s, (pull16 (afterP s)).1, (pull8 (afterPc s)).1, rfl, returnFromInterrupt_cpu s,
    readsOnly_of_touches returnFromInterrupt_touches, fun h hreg => ?interrupt⟩
  case short =>
    rw [pull16_idles_eq]
    exact readPair_idles_toNat h 2 _ _ h1 h2
  case interrupt =>
    have hfirst : ∀ a ∈ [a1, a2, a3], NoRegister s a := by
      cases he : c.e with
      | true => exact fun a ha => hreg a (by rwa [he, if_pos rfl])
      | false =>
        refine fun a ha => hreg a ?_
        rw [he, if_neg Bool.false_ne_true]
        exact List.mem_append_left [a4] ha
    simp only [List.forall_mem_cons] at hfirst
    obtain ⟨h1, h2, h3, -⟩ := hfirst
    refine ⟨returned_toNat h h1 h2 h3, fun he => returnedBank_eq h (hreg a4 ?_)⟩
    simp [he]

end Sys2Proof.Machine
end

section
/-! PROOFS. What changes P and the running state (43_system_flags.md R400, R412-R416, R424, R425). -/

namespace Sys2Proof.Machine
open Sys2Proof.Claims

/-! ### REP, SEP and XCE -/

theorem byte_getLsbD_eq_bit (b : Byte) (k : Nat) : b.getLsbD k = bit b.toNat k := Nat.testBit_eq_decide_div_mod_eq

theorem ofByte_and_not (b m : Byte) :
    Status.ofByte (b &&& ~~~m) =
      let p := Status.ofByte b
      let k := fun j => bit m.toNat j
      { n := p.n && !k 7, v := p.v && !k 6, m := p.m && !k 5, x := p.x && !k 4
        d := p.d && !k 3, i := p.i && !k 2, z := p.z && !k 1, c := p.c && !k 0 } := by
  have hbit : ∀ j < 8, (b &&& ~~~m).getLsbD j = (b.getLsbD j && !bit m.toNat j) := fun j hj => by
    rw [BitVec.getLsbD_and, BitVec.getLsbD_not, decide_eq_true hj, Bool.true_and, byte_getLsbD_eq_bit m]
  simp (disch := decide) only [Status.ofByte, hbit]

theorem ofByte_or (b m : Byte) :
    Status.ofByte (b ||| m) =
      let p := Status.ofByte b
      let k := fun j => bit m.toNat j
      { n := p.n || k 7, v := p.v || k 6, m := p.m || k 5, x := p.x || k 4
        d := p.d || k 3, i := p.i || k 2, z := p.z || k 1, c := p.c || k 0 } := by
  have hbit : ∀ j, (b ||| m).getLsbD j = (b.getLsbD j || bit m.toNat j) := fun j => by
    rw [BitVec.getLsbD_or, byte_getLsbD_eq_bit m]
  simp only [Status.ofByte, hbit]

/-- R33: what `write_P` forces on the registers while E = 1. -/
theorem forced_of_emulation {c : Cpu} (he : c.e = true) (p : Status) :
    forced c p =
      { c with p := { p with m := true, x := true }, x := idx .w8 c.x.toNat, y := idx .w8 c.y.toNat } := by
  simp only [forced, he, if_true]

/-- R37: entering emulation, XCE applies R32, R33 and R34 at once; leaving it, or staying out of it, forces nothing. -/
theorem opXce_eq (c : Cpu) :
    opXce c =
      if c.p.c then
        { c with e := true, p := { c.p with c := c.e, m := true, x := true }, x := idx .w8 c.x.toNat
                 y := idx .w8 c.y.toNat, s := BitVec.ofNat 16 (0x0100 + c.s.toNat % 256) }
      else { c with e := false, p := { c.p with c := c.e } } := by
  cases hc : c.p.c with
  | true =>
    simp only [opXce, hc, if_true]
    rw [writeP_eq_forced, forced_of_emulation rfl, setS_eq]
    rfl
  | false => simp only [opXce, hc, Bool.false_eq_true, if_false]

/-- Settles O31: all three are `implied`. REP and SEP write P through `write_P` (`writeP_eq_forced`), bit by bit
(`ofByte_and_not`, `ofByte_or`); what XCE leaves is `opXce_eq`. -/
theorem repSepXce : Obligations.RepSepXce := by
  unfold Obligations.RepSepXce
  refine fun m s => ⟨implied_becomes rfl ?rep, implied_becomes rfl ?sep, implied_becomes rfl (opXce_eq s.cpu)⟩
  case rep => rw [opRep, writeP_eq_forced, ofByte_and_not, ofByte_toByte]
  case sep => rw [opSep, writeP_eq_forced, ofByte_or, ofByte_toByte]

/-! ### NOP, WDM, WAI and STP -/

/-- NOP is `implied`: one internal cycle and no change of registers (R415). -/
theorem exec_nop_eq_implied (s : State) : exec .nop s = .next (implied 1 id s) := rfl

/-- Settles O32: WDM has nothing left to do after its fetch; the others are `implied`. -/
theorem nopWdmWaiStp : Obligations.NopWdmWaiStp := by
  unfold Obligations.NopWdmWaiStp
  exact fun _ s => ⟨implied_becomes (exec_nop_eq_implied s) rfl, rfl, implied_becomes rfl rfl, implied_becomes rfl rfl⟩

end Sys2Proof.Machine
end

section
/-! PROOFS. The registers of the CPU's own that steer the controller and the raster, and the channel registers
(10_state.md R55, R56, R60; 45_dma_hdma.md R446, R460, R470; 46_cpu_io.md R504, R505, R508, R509). -/

namespace Sys2Proof.Machine
open Sys2Proof.Claims

/-! ### An access to a register of the CPU's own -/

section
variable {s : State} {a : Addr} {o : Nat} (h : CpuReg s a o)
include h

theorem busRead_cpuReg : busRead a s = ((readCpuReg o s).1, setMdr (readCpuReg o s).1 (readCpuReg o s).2) := by
  obtain ⟨hreg, howner, rfl⟩ := h
  unfold busRead
  split
  next => simp only [mmioRead, howner]
  next hnot =>
    cases ht : s.bus.resolve a with
    | mmio i => exact absurd ht (hnot i)
    | _ => rw [ht] at hreg; cases hreg

theorem busWrite_cpuReg (v : Byte) : busWrite a v s = setMdr v (writeCpuReg o v s) := by
  obtain ⟨hreg, howner, rfl⟩ := h
  unfold busWrite
  split
  next => simp only [mmioWrite, howner]
  next hnot =>
    cases ht : s.bus.resolve a with
    | mmio i => exact absurd ht (hnot i)
    | _ => rw [ht] at hreg; cases hreg

/-- A state with the same decoder has the register at the same address. -/
theorem cpuReg_of_bus {t : State} (hresolve : t.bus.resolve a = s.bus.resolve a) (howner : t.bus.owner a = s.bus.owner a) :
    CpuReg t a o := ⟨hresolve ▸ h.1, howner ▸ h.2.1, h.2.2⟩

end

/-! ### MDMAEN and HDMAEN -/

theorem writeMdmaen_ch (v : Byte) (s : State) (n : Fin 8) :
    (writeMdmaen v s).ch n = { s.ch n with dmaEnabled := bit v.toNat n } := by
  rw [← byte_getLsbD_eq_bit]
  exact spreadBits_get _ v s.dma.channels n

theorem writeHdmaen_ch (v : Byte) (s : State) (n : Fin 8) :
    (writeHdmaen v s).ch n = { s.ch n with hdmaEnabled := bit v.toNat n } := by
  rw [← byte_getLsbD_eq_bit]
  exact spreadBits_get _ v s.dma.channels n

theorem byte_ne_zero_iff (v : Byte) : v ≠ 0 ↔ v.toNat ≠ 0 := not_congr BitVec.toNat_inj.symm

/-! ### The raster positions (R509) -/

theorem append_toNat {m n : Nat} (x : BitVec m) (y : BitVec n) : (x ++ y).toNat = x.toNat * 2 ^ n + y.toNat := by
  rw [BitVec.toNat_append, ← Nat.shiftLeft_add_eq_or_of_lt y.isLt, Nat.shiftLeft_eq]

theorem posLow_toNat (w : BitVec 9) (v : Byte) : (posLow w v).toNat = w.toNat / 256 * 256 + v.toNat := by
  have := w.isLt
  rw [posLow, append_toNat, BitVec.extractLsb'_toNat, Nat.shiftRight_eq_div_pow]
  omega

theorem posHigh_toNat (w : BitVec 9) (v : Byte) : (posHigh w v).toNat = v.toNat % 2 * 256 + w.toNat % 256 := by
  have hbit : (v.getLsbD 0).toNat = v.toNat % 2 := by
    rw [byte_getLsbD_eq_bit, bit]
    rcases Nat.mod_two_eq_zero_or_one v.toNat with h | h <;> simp [h]
  rw [posHigh, append_toNat, BitVec.toNat_ofBool, hbit, BitVec.toNat_setWidth]
  rfl

/-! ### HVBJOY (R508) -/

theorem readHvbjoy_toNat (s : State) :
    (readHvbjoy s).toNat = 128 * s.vblank.toNat + 64 * s.hblank.toNat + s.bus.mdr.toNat / 2 % 32 * 2 +
      (decide (s.joy.autojoyBusy ≠ 0)).toNat := by
  have hlatch : (s.bus.mdr.extractLsb' 1 5).toNat = s.bus.mdr.toNat / 2 % 32 := by
    rw [BitVec.extractLsb'_toNat, Nat.shiftRight_eq_div_pow]
  simp only [readHvbjoy, append_toNat, BitVec.toNat_ofBool, hlatch]
  omega

theorem hblank_eq (s : State) : s.hblank = decide (s.clk.hcounter ≤ 2 ∨ 1096 ≤ s.clk.hcounter) :=
  (Bool.decide_or _ _).symm

/-! ### The channel registers (R60) -/

section
variable (n : Fin 8) {r : Nat} (hr : r < 16)
include hr

theorem channelOf_register : channelOf (0x4300 + 16 * n + r) = n := by
  apply Fin.ext
  have := n.isLt
  simp only [channelOf, Fin.val_ofNat]
  omega

theorem register_mod : (0x4300 + 16 * n.val + r) % 16 = r := by omega

theorem register_bounds : 0x4300 ≤ 0x4300 + 16 * n.val + r ∧ 0x4300 + 16 * n.val + r ≤ 0x437F := by
  have := n.isLt
  omega

theorem readCpuReg_channel (s : State) :
    readCpuReg (0x4300 + 16 * n + r) s = ((s.ch n).readReg s.bus.mdr r, s) := by
  unfold readCpuReg
  rw [if_pos (register_bounds n hr), channelOf_register n hr, register_mod n hr]

theorem writeCpuReg_channel (v : Byte) (s : State) :
    writeCpuReg (0x4300 + 16 * n + r) v s = s.updCh n fun c => c.writeReg r v := by
  unfold writeCpuReg
  rw [if_pos (register_bounds n hr), channelOf_register n hr, register_mod n hr]

omit n

theorem Channel.readReg_writeReg (h : ¬ (r = 0xC ∨ r = 0xD ∨ r = 0xE)) (c : Channel) (v mdr : Byte) :
    (c.writeReg r v).readReg mdr r = v := by
  have hclaimed : r ≤ 0xB ∨ r = 0xF := by omega
  obtain hlow | rfl := hclaimed
  · clear hr h
    interval_cases r <;> simp [Channel.writeReg, Channel.readReg]
  · rfl

end

theorem Channel.unclaimed {r : Nat} (h : r = 0xC ∨ r = 0xD ∨ r = 0xE) (c : Channel) (v mdr : Byte) :
    c.writeReg r v = c ∧ c.readReg mdr r = mdr := by
  obtain rfl | rfl | rfl := h <;> exact ⟨rfl, rfl⟩

/-- The write of a channel register, unclaimed or not, as the statement puts it (R60, R470). -/
theorem channelRegister_readBack {s : State} {a : Addr} {n : Fin 8} {r : Nat} (hr : r < 16)
    (h : CpuReg s a (0x4300 + 16 * n + r)) (v : Byte) :
    (∀ k : Fin 8, k ≠ n → (busWrite a v s).ch k = s.ch k) ∧
      (if r = 0xC ∨ r = 0xD ∨ r = 0xE then (busWrite a v s).ch n = s.ch n ∧ (busRead a s).1 = s.bus.mdr
       else (busRead a (busWrite a v s)).1 = v) := by
  rw [busWrite_cpuReg h, writeCpuReg_channel n hr]
  refine ⟨fun k hk => by rw [setMdr_ch, updCh_ch, if_neg hk], ?_⟩
  split
  next hunclaimed =>
    rw [setMdr_ch, updCh_ch_self, busRead_cpuReg h, readCpuReg_channel n hr]
    exact Channel.unclaimed hunclaimed _ v _
  next hclaimed =>
    rw [busRead_cpuReg (cpuReg_of_bus h (t := setMdr v (s.updCh n _)) rfl rfl), readCpuReg_channel n hr, setMdr_ch,
      updCh_ch_self]
    exact Channel.readReg_writeReg hr hclaimed _ _ _

/-! ### WRIO (R504) -/

theorem writeWrio_io (v : Byte) (s : State) : (writeWrio v s).io = { s.io with wrio := v } := by
  rw [writeWrio]
  split <;> rfl

theorem writeWrio_events (v : Byte) (s : State) :
    (writeWrio v s).ext.events =
      if bit s.io.wrio.toNat 7 = true ∧ bit v.toNat 7 = false then .counterLatch :: s.ext.events else s.ext.events := by
  simp only [writeWrio, byte_getLsbD_eq_bit, Bool.and_eq_true, Bool.not_eq_true', apply_ite State.ext, apply_ite Ext.events]

/-- Settles O48: each access is that of the register itself (`busRead_cpuReg`, `busWrite_cpuReg`), and a lemma above says
what the register does. -/
theorem controlRegisters : Obligations.ControlRegisters := by
  unfold Obligations.ControlRegisters
  intro s a v
  refine ⟨fun h => ?mdmaen, fun h => ?hdmaen, fun h => ?wrio, fun h => ?rdio, fun h => ?memsel, fun h => ?htimeLow,
    fun h => ?htimeHigh, fun h => ?vtimeLow, fun h => ?vtimeHigh, fun h => ?hvbjoy, fun n r hr h => ?channel⟩
  case rdio => exact busRead_cpuReg h
  case channel => exact channelRegister_readBack hr h v
  all_goals rw [busWrite_cpuReg h]
  case mdmaen =>
    refine ⟨writeMdmaen_ch v s, ?_, rfl, rfl⟩
    simp only [← byte_ne_zero_iff]
    rfl
  case hdmaen => exact ⟨writeHdmaen_ch v s, rfl, rfl, rfl⟩
  case wrio => exact ⟨writeWrio_io v s, writeWrio_events v s⟩
  case memsel =>
    rw [← byte_getLsbD_eq_bit]
    rfl
  case htimeLow | vtimeLow => exact ⟨posLow_toNat _ v, rfl⟩
  case htimeHigh | vtimeHigh => exact ⟨posHigh_toNat _ v, rfl⟩
  case hvbjoy =>
    rw [busRead_cpuReg h, ← hblank_eq]
    exact ⟨readHvbjoy_toNat s, rfl, rfl⟩

end Sys2Proof.Machine
end

section
/-! PROOFS. Where a byte of the DMA controller comes from and goes to (45_dma_hdma.md R444, R445). -/

namespace Sys2Proof.Machine
open Sys2Proof.Claims

/-! ### The A-bus addresses the controller reaches (R444) -/

/-- Bit 22 of an address says whether its bank is outside 0x00-0x3F and 0x80-0xBF. -/
theorem getLsbD_22_eq (a : Addr) : a.getLsbD 22 = decide (64 ≤ a.toNat / 65536 % 128) := by
  rw [BitVec.getLsbD, Nat.testBit_eq_decide_div_mod_eq, decide_eq_decide]
  omega

theorem dmaAddrValid_eq_false_iff (a : Addr) :
    dmaAddrValid a = false ↔
      (a.toNat / 65536 ≤ 0x3F ∨ (0x80 ≤ a.toNat / 65536 ∧ a.toNat / 65536 ≤ 0xBF)) ∧
      ((0x2100 ≤ a.toNat % 65536 ∧ a.toNat % 65536 ≤ 0x21FF) ∨
        (0x4000 ≤ a.toNat % 65536 ∧ a.toNat % 65536 ≤ 0x41FF) ∨
        (0x4200 ≤ a.toNat % 65536 ∧ a.toNat % 65536 ≤ 0x421F) ∨
        (0x4300 ≤ a.toNat % 65536 ∧ a.toNat % 65536 ≤ 0x437F)) := by
  have hbank : ¬ 64 ≤ a.toNat / 65536 % 128 ↔
      a.toNat / 65536 ≤ 0x3F ∨ (0x80 ≤ a.toNat / 65536 ∧ a.toNat / 65536 ≤ 0xBF) := by
    have := a.isLt
    omega
  simp only [dmaAddrValid, getLsbD_22_eq, Bool.or_eq_false_iff, decide_eq_false_iff_not, hbank, Bool.not_eq_false',
    Bool.or_eq_true, Bool.and_eq_true, decide_eq_true_eq, or_assoc]

theorem dmaRead_of_valid {a : Addr} (h : dmaAddrValid a = true) (s : State) : dmaRead a s = busRead a s := if_pos h

theorem dmaWrite_of_valid {a : Addr} (h : dmaAddrValid a = true) (v : Byte) (s : State) :
    dmaWrite a v s = busWrite a v s := if_pos h

theorem dmaRead_of_invalid {a : Addr} (h : dmaAddrValid a = false) (s : State) : dmaRead a s = (0x00, s) := by
  simp [dmaRead, h]

theorem dmaWrite_of_invalid {a : Addr} (h : dmaAddrValid a = false) (v : Byte) (s : State) : dmaWrite a v s = s := by
  simp [dmaWrite, h]

/-! ### The B-bus offsets of the transfer modes (R445) -/

theorem byteOfNat_toNat {n : Nat} (h : n < 256) : (BitVec.ofNat 8 n).toNat = n := by
  rw [BitVec.toNat_ofNat, Nat.mod_eq_of_lt h]

/-- Settles O55: the four ranges of `dma_addr_valid` (`dmaAddrValid_eq_false_iff`), the accesses that respect it, and the
table of the modes. -/
theorem dmaAddressing : Obligations.DmaAddressing := by
  unfold Obligations.DmaAddressing
  refine ⟨dmaAddrValid_eq_false_iff,
    fun a v s => ⟨fun h => ⟨dmaRead_of_valid h s, dmaWrite_of_valid h v s⟩,
      fun h => ⟨dmaRead_of_invalid h s, dmaWrite_of_invalid h v s⟩⟩,
    fun k => ⟨rfl, byteOfNat_toNat ?_, rfl, byteOfNat_toNat ?_, byteOfNat_toNat ?_, byteOfNat_toNat ?_, rfl,
      byteOfNat_toNat ?_⟩,
    rfl⟩
  all_goals omega

end Sys2Proof.Machine
end

section
/-! PROOFS. What the controller's time leaves alone, and a byte between WMDATA and work RAM (45_dma_hdma.md R443, R451, R452;
60_exceptions.md R586, R587). -/

namespace Sys2Proof.Machine
open Sys2Proof.Claims

/-! ### The engine while time passes -/

theorem SameSpecial.channels {s t : State} (h : SameSpecial s t) (n : Fin 8) : (t.ch n).special = (s.ch n).special := by
  obtain ⟨-, -, -, -, -, -, -, hchannels⟩ := (sameSpecial_iff s t).1 h
  exact hchannels n

/-- The memory map, a pending DMA, the DMA in progress and the channels' registers and enables are the same in both states;
and, where no channel has HDMA enabled, so is a pending HDMA. -/
structure SameEngine (s t : State) : Prop where
  maps : t.bus.maps = s.bus.maps
  pending : t.dma.pending = s.dma.pending
  channel : t.dma.channel = s.dma.channel
  index : t.dma.index = s.dma.index
  special : ∀ n : Fin 8, (t.ch n).special = (s.ch n).special
  hdmaPending : (∀ n : Fin 8, (s.ch n).hdmaEnabled = false) → t.dma.hdmaPending = s.dma.hdmaPending

theorem SameEngine.refl (s : State) : SameEngine s s := ⟨rfl, rfl, rfl, rfl, fun _ => rfl, fun _ => rfl⟩

theorem Channel.hdmaEnabled_of_special {c d : Channel} (h : d.special = c.special) : d.hdmaEnabled = c.hdmaEnabled :=
  congrArg (fun p => p.2.2) h

theorem Channel.dmaEnabled_of_special {c d : Channel} (h : d.special = c.special) : d.dmaEnabled = c.dmaEnabled :=
  congrArg (fun p => p.2.1) h

theorem Channel.registers_of_special {c d : Channel} (h : d.special = c.special) : d.registers = c.registers :=
  congrArg Prod.fst h

theorem SameEngine.trans {s t u : State} (h : SameEngine s t) (k : SameEngine t u) : SameEngine s u where
  maps := k.maps.trans h.maps
  pending := k.pending.trans h.pending
  channel := k.channel.trans h.channel
  index := k.index.trans h.index
  special n := (k.special n).trans (h.special n)
  hdmaPending hoff :=
    (k.hdmaPending fun n => (Channel.hdmaEnabled_of_special (h.special n)).trans (hoff n)).trans (h.hdmaPending hoff)

theorem SameEngine.of_dma {s t : State} (hdma : t.dma = s.dma) (hmaps : t.bus.maps = s.bus.maps) : SameEngine s t where
  maps := hmaps
  pending := by rw [hdma]
  channel := by rw [hdma]
  index := by rw [hdma]
  special n := by rw [State.ch, hdma, State.ch]
  hdmaPending _ := by rw [hdma]

/-- With HDMA enabled nowhere the frame's start brings no HDMA init. -/
theorem eventHdmaInit_sameEngine (s : State) : SameEngine s (eventHdmaInit s) := by
  have hspecial := (eventHdmaInit_sameSpecial s).channels
  have hoff : (∀ n : Fin 8, (s.ch n).hdmaEnabled = false) →
      Dma.any { s.dma with channels := mapChannels Channel.frameStart s.dma.channels } Channel.hdmaEnabled = false :=
    fun hdisabled => any_eq_false fun n => by
      rw [mapChannels_get]
      exact hdisabled n
  unfold eventHdmaInit at hspecial ⊢
  split
  next hdue =>
    rw [if_pos hdue] at hspecial
    refine ⟨rfl, ?_, ?_, ?_, hspecial, fun hdisabled => ?_⟩
    case refine_4 => simp only [hoff hdisabled, Bool.false_eq_true, if_false]
    all_goals
      dsimp only
      split <;> rfl
  next => exact .refl s

/-- Nor does a line bring an HDMA run. -/
theorem eventHdmaRun_sameEngine (s : State) : SameEngine s (eventHdmaRun s) := by
  have hoff : (∀ n : Fin 8, (s.ch n).hdmaEnabled = false) → s.dma.any Channel.hdmaActive = false :=
    fun hdisabled => any_eq_false fun n => by
      have hn : s.dma.channels[n].hdmaEnabled = false := hdisabled n
      rw [Channel.hdmaActive, hn, Bool.false_and]
  unfold eventHdmaRun
  split
  next =>
    refine ⟨rfl, ?_, ?_, ?_, fun n => ?_, fun hdisabled => ?_⟩
    case refine_5 => simp only [hoff hdisabled, Bool.false_eq_true, if_false]
    all_goals
      dsimp only [State.ch]
      split <;> rfl
  next => exact .refl s

theorem lineEvents_sameEngine (s : State) : SameEngine s (lineEvents s) := by
  have hrefresh : ∀ u, SameEngine u (eventRefresh u) := fun u => by unfold eventRefresh; split <;> exact .of_dma rfl rfl
  have hnmi : ∀ u, SameEngine u (eventNmi u) := fun u => by unfold eventNmi; split <;> exact .of_dma rfl rfl
  have hautojoy : ∀ u, SameEngine u (eventAutojoy u) := fun u => by unfold eventAutojoy; split <;> exact .of_dma rfl rfl
  have hframe : ∀ u, SameEngine u (eventFrameStart u) := fun u => by
    unfold eventFrameStart; split <;> exact .of_dma rfl rfl
  exact (hrefresh s).trans <| (eventHdmaInit_sameEngine _).trans <| (eventHdmaRun_sameEngine _).trans <|
    (hnmi _).trans <| (hautojoy _).trans (hframe _)

theorem clockBare_sameEngine (s : State) : SameEngine s (clockBare s) := by
  have hadvance : SameEngine s (advance s) := .of_dma rfl rfl
  have hraster : ∀ u, SameEngine u (rasterCompare u) := fun _ => .of_dma rfl rfl
  exact hadvance.trans ((lineEvents_sameEngine _).trans (hraster _))

theorem clock_sameEngine (s : State) : SameEngine s (clock s) := by
  unfold clock
  split
  · exact iterate_keeps (P := SameEngine s) (fun u hu => hu.trans (clockBare_sameEngine u)) _ _ (clockBare_sameEngine s)
  · exact clockBare_sameEngine s

theorem spend_sameEngine (k : Nat) (s : State) : SameEngine s (spend k s) :=
  iterate_keeps (P := SameEngine s) (fun u hu => hu.trans (clock_sameEngine u)) k s (.refl s)

/-! ### The clocks of a byte and the overhead clocks -/

/-- What the controller's clocks and unit events leave alone (R443, R587). -/
structure Waited (s t : State) : Prop where
  cpu : t.cpu = s.cpu
  bus : t.bus = s.bus
  io : t.io = s.io
  ext : t.ext = s.ext
  params : t.params = s.params
  engine : SameEngine s t

namespace Waited

theorem refl (s : State) : Waited s s := ⟨rfl, rfl, rfl, rfl, rfl, .refl s⟩

section
variable {s t : State} (h : Waited s t)
include h

theorem spend (k : Nat) : Waited s (Machine.spend k t) := by
  have ht := spend_timeless k t
  exact ⟨ht.cpu.trans h.cpu, ht.bus.trans h.bus, ht.io.trans h.io, ht.ext.trans h.ext, ht.params.trans h.params,
    h.engine.trans (spend_sameEngine k t)⟩

theorem dmaUnitEvent : Waited s (Machine.dmaUnitEvent t) :=
  ⟨h.cpu, h.bus, h.io, h.ext, h.params, h.engine.trans (.of_dma rfl rfl)⟩

theorem owe (k : Nat) : Waited s (Machine.owe k t) := by
  have howed : SameEngine t (Machine.owe k t) := ⟨rfl, rfl, rfl, rfl, fun _ => rfl, fun _ => rfl⟩
  exact ⟨h.cpu, h.bus, h.io, h.ext, h.params, h.engine.trans howed⟩

theorem pay (k : Nat) : Waited s (Machine.pay k t) := (h.spend k).owe _

theorem payUnit (k : Nat) : Waited s (Machine.payUnit k t) := (h.pay k).dmaUnitEvent

theorem spendOverhead (k : Nat) : Waited s (Machine.spendOverhead k t) :=
  (iterate_keeps (P := Waited s) (fun _ hu => (hu.spend _).dmaUnitEvent) _ t h).spend _

end

end Waited

/-! ### A byte between WMDATA and work RAM (R451, R452) -/

/-- The state in which the byte's access, if it has one, is made. -/
def conflictWaited (s : State) : State := payUnit 8 (owe Config.dmaByteClocks s)

theorem conflictWaited_waited (s : State) : Waited s (conflictWaited s) := ((Waited.refl s).owe _).payUnit 8

section
variable {s : State} {a : Addr} {i : Nat} (h : s.bus.resolve a = .wram i)
include h

theorem wramConflict_eq_true : wramConflict 0x80 a (owe Config.dmaByteClocks s) = true := by
  simp only [wramConflict, owe_bus, h, decide_true, Bool.and_self]

theorem transfer_conflict_toB : transfer false 0x80 a s = conflictWaited s := by
  rw [transfer, if_pos (wramConflict_eq_true h)]
  rfl

theorem transfer_conflict_toA :
    transfer true 0x80 a s = setMdr s.bus.mdr (dmaWrite a 0x00 (conflictWaited s)) := by
  rw [transfer, if_pos (wramConflict_eq_true h), conflictByte, if_pos rfl, ← (conflictWaited_waited s).bus]
  rfl

theorem dmaWrite_wram_io (t : State) (ht : t.bus = s.bus) (v : Byte) : (dmaWrite a v t).io = t.io := by
  have hno : NoRegister t a := noRegister_of_resolve (ht ▸ h) rfl
  unfold dmaWrite
  split
  · rw [busWrite_of_noRegister hno]
    rfl
  · rfl

theorem dmaWrite_wram (hvalid : dmaAddrValid a = true) {t : State} (ht : t.bus = s.bus) (v : Byte) :
    (dmaWrite a v t).bus.wram = Memory.write s.bus.wram i v := by
  have hresolve : t.bus.resolve a = .wram i := ht ▸ h
  rw [dmaWrite_of_valid hvalid, busWrite_bus (noRegister_of_resolve hresolve rfl), hresolve, ht]
  rfl

end

/-- Settles O58: the byte's clocks leave the buses (`conflictWaited_waited`), and its only access is a store of 0x00. -/
theorem wramConflicts : Obligations.WramConflict := by
  unfold Obligations.WramConflict
  intro s a i h hok
  have hwaited := conflictWaited_waited s
  rw [transfer_conflict_toB h, transfer_conflict_toA h]
  refine ⟨hwaited.bus, hwaited.io, rfl, ?io, fun hvalid j => ?wram⟩
  case io => exact (dmaWrite_wram_io h _ hwaited.bus _).trans hwaited.io
  case wram => rw [setMdr_wram, dmaWrite_wram h hvalid hwaited.bus, Memory.read_write (Bus.wram_wf hok)]

end Sys2Proof.Machine
end

section
/-! PROOFS. The HDMA table: the bytes the controller reads of it, the reload of a channel from its next entry, and the init
of a channel (45_dma_hdma.md R461, R463, R464). -/

namespace Sys2Proof.Machine
open Sys2Proof.Claims

/-! ### States that differ in one channel -/

/-- The registers and enables are the same exactly when only the two HDMA bits can differ. -/
theorem Channel.special_eq_iff {c d : Channel} :
    d.special = c.special ↔
      ∃ completed doTransfer, d = { c with hdmaCompleted := completed, hdmaDoTransfer := doTransfer } := by
  constructor
  · intro h
    refine ⟨d.hdmaCompleted, d.hdmaDoTransfer, ?_⟩
    cases c
    cases d
    simp only [Channel.special, Channel.registers, Prod.mk.injEq, and_assoc] at h
    obtain ⟨rfl, rfl, rfl, rfl, rfl, rfl, rfl, rfl, rfl, rfl, rfl⟩ := h
    rfl
  · rintro ⟨completed, doTransfer, rfl⟩
    rfl

/-- t is s but for time, the open-bus latch and what was sent to other agents; and channel n is c, its two HDMA bits
aside. -/
structure OnlyChannel (n : Fin 8) (s : State) (c : Channel) (t : State) : Prop where
  cpu : t.cpu = s.cpu
  io : t.io = s.io
  bus : t.bus = { s.bus with mdr := t.bus.mdr }
  self : (t.ch n).special = c.special
  others : ∀ k : Fin 8, k ≠ n → (t.ch k).special = (s.ch k).special

namespace OnlyChannel

theorem refl (n : Fin 8) (s : State) : OnlyChannel n s (s.ch n) s := ⟨rfl, rfl, rfl, rfl, fun _ _ => rfl⟩

section
variable {n : Fin 8} {s t : State} {c : Channel} (h : OnlyChannel n s c t)
include h

theorem waited {u : State} (hu : Waited t u) : OnlyChannel n s c u where
  cpu := hu.cpu.trans h.cpu
  io := hu.io.trans h.io
  bus := by rw [hu.bus]; exact h.bus
  self := (hu.engine.special n).trans h.self
  others k hk := (hu.engine.special k).trans (h.others k hk)

theorem setMdr (v : Byte) : OnlyChannel n s c (Machine.setMdr v t) where
  cpu := h.cpu
  io := h.io
  bus := by rw [Machine.setMdr, h.bus]
  self := h.self
  others := h.others

/-- A change of the channel itself, by an operation that does not look at the two HDMA bits. -/
theorem updCh {f : Channel → Channel}
    (hf : ∀ x y, (f { c with hdmaCompleted := x, hdmaDoTransfer := y }).special = (f c).special) :
    OnlyChannel n s (f c) (t.updCh n f) where
  cpu := h.cpu
  io := h.io
  bus := h.bus
  self := by
    obtain ⟨x, y, hc⟩ := Channel.special_eq_iff.1 h.self
    rw [updCh_ch_self, hc, hf]
  others k hk := by rw [updCh_ch, if_neg hk]; exact h.others k hk

theorem sameMemory : SameMemory s t := fun a => by rw [h.bus]; rfl

theorem storage {a : Addr} (ha : Storage s a) : Storage t a := by rw [Storage, h.sameMemory]; exact ha

theorem busByte_eq (a : Addr) : busByte t.bus 0 a = busByte s.bus 0 a := by rw [busByte, busByte, h.sameMemory]

end

end OnlyChannel

/-- R110: the read of a byte of storage. -/
theorem busRead_of_storage {s : State} {a : Addr} (h : Storage s a) :
    busRead a s = (busByte s.bus 0 a, setMdr (busByte s.bus 0 a) s) := by
  have hvalue : byteOr s s.bus.mdr a = busByte s.bus 0 a := by
    obtain ⟨v, hv⟩ := Option.isSome_iff_exists.1 h
    rw [byteOr, busByte, hv]
    rfl
  rw [busRead_of_noRegister h.noRegister, hvalue]

/-! ### A byte of the table (R464) -/

/-- The address of byte k of the table from where the channel's pointer stands. -/
def tableAddr (c : Channel) (k : Nat) : Addr := long c.a1b (c.a2a + BitVec.ofNat 16 k)

/-- The controller reaches the address, and it is a byte of storage. -/
def Readable (s : State) (a : Addr) : Prop := dmaAddrValid a = true ∧ Storage s a

/-- The table pointer past a byte (R461). -/
def Channel.stepTable (c : Channel) : Channel := { c with a2a := c.a2a + 1 }

/-- The channel with a header loaded (R464). -/
def Channel.withHeader (v : Byte) (c : Channel) : Channel :=
  { c with ntrl := v, hdmaCompleted := decide (v = 0), hdmaDoTransfer := !decide (v = 0) }

/-- The channel with an indirect pointer loaded (R464). -/
def Channel.withPointer (p : Word) (c : Channel) : Channel := { c with das := p }

theorem ofNat_succ (w m : Nat) : BitVec.ofNat w (m + 1) = 1 + BitVec.ofNat w m := by
  rw [Nat.add_comm, BitVec.ofNat_add]
  rfl

theorem tableAddr_stepTable (c : Channel) (k : Nat) : tableAddr c.stepTable k = tableAddr c (k + 1) := by
  rw [tableAddr, tableAddr, ofNat_succ, ← BitVec.add_assoc]
  rfl

theorem tableAddr_withHeader (v : Byte) (c : Channel) (k : Nat) :
    tableAddr (c.stepTable.withHeader v) k = tableAddr c (k + 1) := tableAddr_stepTable c k

theorem nextTableByte_eq (n : Fin 8) (s : State) :
    nextTableByte n s = tableByte (long (s.ch n).a1b (s.ch n).a2a) (s.updCh n Channel.stepTable) := rfl

theorem reloadPointer_eq (n : Fin 8) (s : State) :
    reloadPointer n s = (nextTableByte n (nextTableByte n s).2).2.updCh n
      (Channel.withPointer (word (nextTableByte n (nextTableByte n s).2).1 (nextTableByte n s).1)) := rfl

theorem hdmaReload_of_lines {n : Fin 8} {s : State} (h : (s.ch n).ntrl.toNat % 128 ≠ 0) : hdmaReload n s = s := if_pos h

theorem hdmaReload_of_noLines {n : Fin 8} {s : State} (h : (s.ch n).ntrl.toNat % 128 = 0) :
    hdmaReload n s =
      let t := (nextTableByte n s).2.updCh n (Channel.withHeader (nextTableByte n s).1)
      if (t.ch n).indirect && !decide ((nextTableByte n s).1 = 0) then reloadPointer n t else t :=
  if_neg (not_not_intro h)

section
variable {n : Fin 8} {s t : State} {c : Channel} (h : OnlyChannel n s c t)
include h

theorem OnlyChannel.tableByte {a : Addr} (ha : Readable s a) :
    (tableByte a t).1 = busByte s.bus 0 a ∧ OnlyChannel n s c (tableByte a t).2 := by
  have hwaited := h.waited (((Waited.refl t).owe Config.dmaByteClocks).payUnit 8)
  rw [Machine.tableByte, dmaRead_of_valid ha.1, busRead_of_storage (hwaited.storage ha.2), hwaited.busByte_eq]
  exact ⟨rfl, hwaited.setMdr _⟩

theorem OnlyChannel.nextTableByte (ha : Readable s (tableAddr c 0)) :
    (nextTableByte n t).1 = busByte s.bus 0 (tableAddr c 0) ∧ OnlyChannel n s c.stepTable (nextTableByte n t).2 := by
  have haddr : long (t.ch n).a1b (t.ch n).a2a = tableAddr c 0 := by
    obtain ⟨x, y, hc⟩ := Channel.special_eq_iff.1 h.self
    rw [hc, tableAddr, BitVec.add_zero]
  rw [nextTableByte_eq, haddr]
  exact (h.updCh fun _ _ => rfl).tableByte ha

theorem OnlyChannel.reloadPointer (h0 : Readable s (tableAddr c 0)) (h1 : Readable s (tableAddr c 1)) :
    OnlyChannel n s
      (c.stepTable.stepTable.withPointer (word (busByte s.bus 0 (tableAddr c 1)) (busByte s.bus 0 (tableAddr c 0))))
      (reloadPointer n t) := by
  obtain ⟨hlow, hread⟩ := h.nextTableByte h0
  obtain ⟨hhigh, hread⟩ := hread.nextTableByte (tableAddr_stepTable c 0 ▸ h1)
  rw [tableAddr_stepTable] at hhigh
  rw [reloadPointer_eq, hlow, hhigh]
  exact hread.updCh fun _ _ => rfl

end

/-! ### The reload of a channel (R464) -/

theorem Channel.indirect_eq_bit (c : Channel) : c.indirect = bit c.dmap.toNat 6 := byte_getLsbD_eq_bit _ _

/-- Byte k of the table. -/
def tableValue (b : Bus) (c : Channel) (k : Nat) : Byte := busByte b 0 (tableAddr c k)

/-- Whether the next entry of the table has a pointer: in indirect mode, behind a header that is not 0. -/
def entryPoints (b : Bus) (c : Channel) : Bool := bit c.dmap.toNat 6 && decide (tableValue b c 0 ≠ 0)

/-- The channel with the next entry of its table loaded. -/
def loadedEntry (b : Bus) (c : Channel) : Channel :=
  { c with
    ntrl := tableValue b c 0
    a2a := c.a2a + (if entryPoints b c then 3 else 1)
    das := if entryPoints b c then word (tableValue b c 2) (tableValue b c 1) else c.das }

theorem loadedEntry_of_header {b : Bus} {c : Channel} (h : entryPoints b c = false) :
    (loadedEntry b c).special = (c.stepTable.withHeader (tableValue b c 0)).special := by
  rw [loadedEntry, h]
  rfl

theorem loadedEntry_of_pointer {b : Bus} {c : Channel} (h : entryPoints b c = true) :
    (loadedEntry b c).special = ((c.stepTable.withHeader (tableValue b c 0)).stepTable.stepTable.withPointer
      (word (tableValue b c 2) (tableValue b c 1))).special := by
  have hthree : c.a2a + 1 + 1 + 1 = c.a2a + 3 := by rw [BitVec.add_assoc, BitVec.add_assoc]; rfl
  simp only [Channel.special, Channel.registers, loadedEntry, Channel.withPointer, Channel.withHeader, Channel.stepTable, h,
    if_true, hthree]

/-- What the reload of channel n makes of a state. -/
structure Reloaded (n : Fin 8) (s t : State) : Prop where
  state : OnlyChannel n s (loadedEntry s.bus (s.ch n)) t
  bits : entryPoints s.bus (s.ch n) = false →
    (t.ch n).hdmaCompleted = decide (tableValue s.bus (s.ch n) 0 = 0) ∧
      (t.ch n).hdmaDoTransfer = decide (tableValue s.bus (s.ch n) 0 ≠ 0)

theorem OnlyChannel.congr {n : Fin 8} {s t : State} {c d : Channel} (h : OnlyChannel n s c t)
    (hd : d.special = c.special) : OnlyChannel n s d t := ⟨h.cpu, h.io, h.bus, h.self.trans hd.symm, h.others⟩

theorem hdmaReload_reloaded {n : Fin 8} {s : State} (hntrl : (s.ch n).ntrl.toNat % 128 = 0)
    (hread : ∀ k < (if entryPoints s.bus (s.ch n) then 3 else 1), Readable s (tableAddr (s.ch n) k)) :
    Reloaded n s (hdmaReload n s) := by
  have hfirst : Readable s (tableAddr (s.ch n) 0) := hread 0 (by split <;> decide)
  obtain ⟨hheader, hnext⟩ := (OnlyChannel.refl n s).nextTableByte hfirst
  have hloaded := hnext.updCh (f := Channel.withHeader (tableValue s.bus (s.ch n) 0)) fun _ _ => rfl
  rw [hdmaReload_of_noLines hntrl, hheader, ← tableValue]
  dsimp only
  have hpoints : ((((nextTableByte n s).2.updCh n (Channel.withHeader (tableValue s.bus (s.ch n) 0))).ch n).indirect &&
      !decide (tableValue s.bus (s.ch n) 0 = 0)) = entryPoints s.bus (s.ch n) := by
    obtain ⟨x, y, hc⟩ := Channel.special_eq_iff.1 hloaded.self
    rw [hc, entryPoints, Channel.indirect_eq_bit, decide_not]
    rfl
  rw [hpoints]
  split
  next hp =>
    rw [if_pos hp] at hread
    have haddr := tableAddr_withHeader (tableValue s.bus (s.ch n) 0) (s.ch n)
    have hpointer := hloaded.reloadPointer (by rw [haddr]; exact hread 1 (by decide))
      (by rw [haddr]; exact hread 2 (by decide))
    rw [haddr, haddr] at hpointer
    exact ⟨hpointer.congr (loadedEntry_of_pointer hp), fun h => absurd (h.symm.trans hp) (by decide)⟩
  next hp =>
    refine ⟨hloaded.congr (loadedEntry_of_header (by simpa using hp)), fun _ => ?_⟩
    rw [updCh_ch_self, decide_not]
    exact ⟨rfl, rfl⟩

/-! ### The init of a channel (R463) -/

/-- The channel at the start of its table (R463). -/
def Channel.startTable (c : Channel) : Channel := { c with dmaEnabled := false, a2a := c.a1t, ntrl := 0 }

/-- Settles O59: the reload of a channel (`hdmaReload_reloaded`) from the start of its table. -/
theorem hdmaInitChannels : Obligations.HdmaInitChannel := by
  unfold Obligations.HdmaInitChannel
  intro s n henabled
  dsimp only
  intro hread
  have hstart : (s.updCh n Channel.startTable).ch n = (s.ch n).startTable := updCh_ch_self s n _
  have hinit : hdmaInitChannel s n = hdmaReload n (s.updCh n Channel.startTable) := if_pos henabled
  have hreload : Reloaded n (s.updCh n Channel.startTable) (hdmaInitChannel s n) := by
    rw [hinit]
    refine hdmaReload_reloaded ?_ ?_
    · rw [hstart]
      rfl
    · rw [hstart]
      exact hread
  obtain ⟨hstate, hbits⟩ := hreload
  rw [hstart] at hstate hbits
  obtain ⟨x, y, hc⟩ := Channel.special_eq_iff.1 hstate.self
  have hother : ∀ k : Fin 8, k ≠ n → ((hdmaInitChannel s n).ch k).special = (s.ch k).special := fun k hk => by
    rw [hstate.others k hk, updCh_ch, if_neg hk]
  refine ⟨?_, hbits, ?_, ?_, ?_, ?_, ?_, ?_, ?_, hstate.cpu, hstate.sameMemory, fun k hk =>
    ⟨Channel.registers_of_special (hother k hk), Channel.dmaEnabled_of_special (hother k hk)⟩⟩
  all_goals
    rw [hc]
    rfl

end Sys2Proof.Machine
end

section
/-! PROOFS. A byte of the controller writes none of its own registers (45_dma_hdma.md R444, R449); and one channel of an HDMA
run: its unit, its line count and its reload (R445, R461, R464, R465, R468). -/

namespace Sys2Proof.Machine
open Sys2Proof.Claims

/-! ### Accesses that leave the engine alone -/

theorem writeCpuReg_dma {o : Nat} (hmdmaen : o ≠ 0x420B) (hhdmaen : o ≠ 0x420C)
    (hchannel : ¬ (0x4300 ≤ o ∧ o ≤ 0x437F)) (v : Byte) (s : State) : (writeCpuReg o v s).dma = s.dma := by
  unfold writeCpuReg
  rw [if_neg hchannel]
  split
  case h_7 =>
    rw [writeWrio]
    split <;> rfl
  case h_17 => exact absurd rfl hmdmaen
  case h_18 => exact absurd rfl hhdmaen
  all_goals rfl

theorem busWrite_maps (a : Addr) (v : Byte) (s : State) : (busWrite a v s).bus.maps = s.bus.maps :=
  congrArg Prod.fst (busWrite_config s a v)

theorem busRead_sameEngine (a : Addr) (s : State) : SameEngine s (busRead a s).2 :=
  .of_dma (busRead_dma a s) (by rw [busRead_bus])

theorem setMdr_sameEngine (v : Byte) (s : State) : SameEngine s (setMdr v s) := .of_dma rfl rfl

/-- A write steers the controller only through MDMAEN, HDMAEN and the channel registers. -/
theorem busWrite_sameEngine {a : Addr} {s : State}
    (h : (s.bus.resolve a).isRegister = true →
      (offOf a).toNat ≠ 0x420B ∧ (offOf a).toNat ≠ 0x420C ∧
        ¬ (0x4300 ≤ (offOf a).toNat ∧ (offOf a).toNat ≤ 0x437F))
    (v : Byte) : SameEngine s (busWrite a v s) := by
  refine .of_dma ?_ (busWrite_maps a v s)
  cases hreg : (s.bus.resolve a).isRegister with
  | false => exact busWrite_dma hreg v
  | true =>
    obtain ⟨hmdmaen, hhdmaen, hchannel⟩ := h hreg
    unfold busWrite
    split
    next =>
      rw [setMdr_dma]
      unfold mmioWrite
      split
      · rfl
      · exact writeCpuReg_dma hmdmaen hhdmaen hchannel v s
      · exact synchronize_dma _ s
    next => rfl

theorem offOf_bBus_toNat (b : Byte) : (offOf (bBus b)).toNat = b.toNat + 256 * 0x21 := by
  rw [bBus, offOf_long, word_toNat]
  rfl

/-- The B-bus has none of the controller's registers (R449). -/
theorem busWrite_bBus_sameEngine (b v : Byte) (s : State) : SameEngine s (busWrite (bBus b) v s) := by
  have hb := b.isLt
  refine busWrite_sameEngine (fun _ => ?_) v
  rw [offOf_bBus_toNat]
  omega

/-- Under the fixed map's banks a register lies in banks 0x00-0x3F or 0x80-0xBF (R113). -/
theorem bank_of_register {s : State} (h : SystemMmio s) {a : Addr} (hreg : (s.bus.resolve a).isRegister = true) :
    a.toNat / 65536 ≤ 0x3F ∨ (0x80 ≤ a.toNat / 65536 ∧ a.toNat / 65536 ≤ 0xBF) := by
  unfold Bus.resolve at hreg
  split at hreg
  next => cases hreg
  next r hfind =>
    have hcovers := List.find?_some hfind
    have hbanks := h r (List.mem_of_find?_eq_some hfind)
    simp only [MapRequest.covers, Bool.and_eq_true, decide_eq_true_eq] at hcovers
    dsimp only at hreg
    split at hreg
    case h_2 hdev =>
      obtain h | ⟨h, h'⟩ := hbanks hdev <;> omega
    case h_1 => cases hreg
    all_goals
      split at hreg <;> cases hreg

/-- The A-bus addresses the controller reaches have none of its registers (R444). -/
theorem dmaWrite_sameEngine {s : State} (h : SystemMmio s) (a : Addr) (v : Byte) : SameEngine s (dmaWrite a v s) := by
  cases hvalid : dmaAddrValid a with
  | false =>
    rw [dmaWrite_of_invalid hvalid]
    exact .refl s
  | true =>
    rw [dmaWrite_of_valid hvalid]
    refine busWrite_sameEngine (fun hreg => ?_) v
    have hbank := bank_of_register h hreg
    have hoff : ¬ (dmaAddrValid a = false) := by rw [hvalid]; decide
    rw [dmaAddrValid_eq_false_iff] at hoff
    have hmod : (offOf a).toNat = a.toNat % 65536 := by rw [offOf_eq_ofNat, BitVec.toNat_ofNat]
    omega

theorem dmaRead_sameEngine (a : Addr) (s : State) : SameEngine s (dmaRead a s).2 := by
  unfold dmaRead
  split
  · exact busRead_sameEngine a s
  · exact .refl s

/-- What keeps the bytes of a direction away from the controller's registers: they go to the B-bus, or the dispatcher is
mapped where R444 forbids its registers. -/
def Contained (toA : Bool) (s : State) : Prop := SystemMmio s ∨ toA = false

theorem Contained.of_sameEngine {toA : Bool} {s t : State} (h : Contained toA s) (ht : SameEngine s t) : Contained toA t :=
  h.imp_left fun hmmio r hr => hmmio r (ht.maps ▸ hr)

/-- A byte of the controller leaves the engine alone. -/
theorem transfer_sameEngine {toA : Bool} {s : State} (h : Contained toA s) (b : Byte) (a : Addr) :
    SameEngine s (transfer toA b a s) := by
  have howed : Waited s (owe Config.dmaByteClocks s) := (Waited.refl s).owe _
  have hwrite : ∀ {t : State} (v : Byte), SameEngine s t → toA = true → SameEngine s (dmaWrite a v t) :=
    fun v ht htoA => ht.trans (dmaWrite_sameEngine ((h.of_sameEngine ht).resolve_right (by simp [htoA])) a v)
  have hpaid : ∀ {t : State}, SameEngine s t → SameEngine s (payUnit 4 t) := fun {t} ht =>
    ht.trans ((Waited.refl t).payUnit 4).engine
  unfold transfer
  dsimp only
  split
  · unfold conflictByte
    dsimp only
    split
    next htoA => exact (hwrite _ (howed.payUnit 8).engine htoA).trans (setMdr_sameEngine _ _)
    next => exact (howed.payUnit 8).engine
  · split
    next htoA =>
      unfold byteToA
      exact hwrite _ (hpaid ((howed.pay 4).engine.trans (busRead_sameEngine _ _))) htoA
    next =>
      unfold byteToB
      exact (hpaid ((howed.pay 4).engine.trans (dmaRead_sameEngine _ _))).trans (busWrite_bBus_sameEngine _ _ _)

theorem wramConflict_of_ne {b : Byte} (h : b ≠ 0x80) (a : Addr) (s : State) : wramConflict b a s = false := by
  rw [wramConflict, decide_eq_false h, Bool.false_and]

theorem Waited.setMdr {s t : State} (h : Waited s t) (v : Byte) : Waited (Machine.setMdr v s) (Machine.setMdr v t) where
  cpu := h.cpu
  bus := by rw [Machine.setMdr, Machine.setMdr, h.bus]
  io := h.io
  ext := h.ext
  params := h.params
  engine := ⟨h.engine.maps, h.engine.pending, h.engine.channel, h.engine.index, h.engine.special, h.engine.hdmaPending⟩

/-- R451: a byte of storage is read, and after some time written to the B-bus. -/
theorem transfer_toB_of_readable {b : Byte} {a : Addr} {s : State} (hconflict : wramConflict b a s = false)
    (ha : Readable s a) :
    ∃ t, Waited (setMdr (busByte s.bus 0 a) s) t ∧ transfer false b a s = busWrite (bBus b) (busByte s.bus 0 a) t := by
  have hpaid : Waited s (pay 4 (owe Config.dmaByteClocks s)) := ((Waited.refl s).owe _).pay 4
  have hstorage : Storage (pay 4 (owe Config.dmaByteClocks s)) a := by rw [Storage, hpaid.bus]; exact ha.2
  refine ⟨payUnit 4 (setMdr (busByte s.bus 0 a) (pay 4 (owe Config.dmaByteClocks s))), (hpaid.setMdr _).payUnit 4, ?_⟩
  have howed : wramConflict b a (owe Config.dmaByteClocks s) = false := hconflict
  rw [transfer, howed, if_neg (by decide), if_neg (by decide), byteToB, dmaRead_of_valid ha.1, busRead_of_storage hstorage,
    hpaid.bus]

/-! ### The unit of a channel (R445, R465) -/

/-- Byte k of a channel's unit: its B-bus offset and its A-bus address. -/
def unitByte (c : Channel) (k : Nat) : Byte × Addr :=
  (c.bAddr k, if bit c.dmap.toNat 6 then long c.dasb (c.das + BitVec.ofNat 16 k) else tableAddr c k)

/-- R445's table, as a map over the index. -/
theorem unitOf_eq_map_range (c : Channel) : unitOf c = (List.range (unitLength c.mode)).map (unitByte c) := by
  have hlt : c.mode < 8 := Nat.mod_lt _ (by decide)
  have hbyte : unitByte c = fun k => (c.bbad + bOffset c.mode k, (unitByte c k).2) := rfl
  rw [hbyte]
  unfold unitOf
  rw [← Channel.mode]
  generalize c.mode = m at hlt
  interval_cases m <;> rfl

theorem updCh_congr {n : Fin 8} {s : State} {f g : Channel → Channel} (h : f (s.ch n) = g (s.ch n)) :
    s.updCh n f = s.updCh n g := by
  rw [State.updCh, State.updCh]
  exact congrArg (fun c => { s with dma := { s.dma with channels := s.dma.channels.set n c } }) h

/-- What a byte's address comes from does not decide its direction and its B-bus register. -/
theorem unitAfter_keeps (m : Nat) (c : Channel) :
    (unitAfter m c).toA = c.toA ∧ ∀ k, (unitAfter m c).bAddr k = c.bAddr k := by
  unfold unitAfter
  split <;> exact ⟨rfl, fun _ => rfl⟩

theorem unitAfter_unitAfter (m k : Nat) (c : Channel) : unitAfter k (unitAfter m c) = unitAfter (m + k) c := by
  unfold unitAfter
  rw [BitVec.ofNat_add]
  split <;> simp only [BitVec.add_assoc]

/-- The pointer steps past a byte, and the byte is moved (R461, R465). -/
theorem hdmaUnitByte_eq (n : Fin 8) (s : State) (k : Nat) :
    hdmaUnitByte n s k =
      transfer (s.ch n).toA ((s.ch n).bAddr k) (unitByte (s.ch n) 0).2 (s.updCh n (unitAfter 1)) := by
  have hpointer : (if (s.ch n).indirect then hdmaInd n s else hdmaTable n s) =
      ((unitByte (s.ch n) 0).2, s.updCh n (unitAfter 1)) := by
    rw [Channel.indirect_eq_bit, unitByte, tableAddr, BitVec.add_zero, BitVec.add_zero]
    split
    next h => exact congrArg (Prod.mk _) (updCh_congr (if_pos h).symm)
    next h => exact congrArg (Prod.mk _) (updCh_congr (if_neg h).symm)
  obtain ⟨htoA, hb⟩ := unitAfter_keeps 1 (s.ch n)
  rw [hdmaUnitByte, hpointer]
  dsimp only
  rw [updCh_ch_self, htoA, hb]

/-- With the pointer k bytes on, the next byte is byte k of the unit. -/
theorem unitByte_unitAfter (k : Nat) (c : Channel) : (unitByte (unitAfter k c) 0).2 = (unitByte c k).2 := by
  unfold unitByte unitAfter tableAddr
  split <;> simp only [BitVec.add_zero]

theorem unitAfter_special (k : Nat) (c : Channel) (x y : Bool) :
    (unitAfter k { c with hdmaCompleted := x, hdmaDoTransfer := y }).special = (unitAfter k c).special := by
  unfold unitAfter
  split <;> rfl

theorem updCh_unitAfter_special {n : Fin 8} {s : State} {c : Channel} (h : (s.ch n).special = c.special) (k : Nat) :
    ((s.updCh n (unitAfter k)).ch n).special = (unitAfter k c).special := by
  obtain ⟨x, y, hc⟩ := Channel.special_eq_iff.1 h
  rw [updCh_ch_self, hc, unitAfter_special]

/-- The loop over the unit of a channel moves its bytes in order, each where the registers at the line's start say (R465). -/
theorem hdmaUnitBytes_eq_moveUnit {n : Fin 8} {c : Channel} (m : Nat) {k : Nat} {s : State} (hcontained : Contained c.toA s)
    (hc : (s.ch n).special = (unitAfter k c).special) :
    (List.range' k m).foldl (hdmaUnitByte n) s = moveUnit n c.toA ((List.range' k m).map (unitByte c)) s := by
  induction m generalizing k s with
  | zero => rfl
  | succ m ih =>
    obtain ⟨x, y, hch⟩ := Channel.special_eq_iff.1 hc
    have hbyte : hdmaUnitByte n s k =
        transfer c.toA (unitByte c k).1 (unitByte c k).2 (s.updCh n (unitAfter 1)) := by
      obtain ⟨htoA, hb⟩ := unitAfter_keeps k c
      rw [hdmaUnitByte_eq, hch]
      exact congr (congr (congrArg transfer htoA) (hb k)) (unitByte_unitAfter k c) ▸ rfl
    have hstepped : Contained c.toA (s.updCh n (unitAfter 1)) := hcontained
    have hmoved := transfer_sameEngine hstepped (unitByte c k).1 (unitByte c k).2
    have hnext : ((hdmaUnitByte n s k).ch n).special = (unitAfter (k + 1) c).special := by
      rw [hbyte, hmoved.special, updCh_unitAfter_special hc, unitAfter_unitAfter]
    rw [List.range'_succ, List.foldl_cons, List.map_cons, moveUnit, ← hbyte]
    exact ih (hbyte ▸ hstepped.of_sameEngine hmoved) hnext

/-! ### A byte sent to another agent (R599) -/

theorem busWrite_external {s : State} {a : Addr} {g : AgentId} (hreg : (s.bus.resolve a).isRegister = true)
    (howner : s.bus.owner a = some g) (hg : g ≠ .cpu) (v : Byte) :
    busWrite a v s = setMdr v (writeExternal g a v s) := by
  unfold busWrite
  split
  next =>
    unfold mmioWrite
    rw [howner]
    cases g with
    | cpu => exact absurd rfl hg
    | _ => rfl
  next hnot =>
    cases ht : s.bus.resolve a with
    | mmio i => exact absurd ht (hnot i)
    | _ => rw [ht] at hreg; cases hreg

theorem OnlyChannel.writeExternal {n : Fin 8} {s t : State} {c : Channel} (h : OnlyChannel n s c t) (g : AgentId)
    (a : Addr) (v : Byte) : OnlyChannel n s c (writeExternal g a v t) := by
  cases g <;> exact ⟨h.cpu, h.io, h.bus, h.self, h.others⟩

theorem writeExternal_events (g : AgentId) (a : Addr) (v : Byte) (s : State) :
    (writeExternal g a v s).ext.events = .write g a v :: s.ext.events := by cases g <;> rfl

/-- A byte that goes from storage to a register of another agent. -/
structure Sends (s : State) (g : AgentId) (p : Byte × Addr) : Prop where
  source : Readable s p.2
  port : p.1 ≠ 0x80
  register : (s.bus.resolve (bBus p.1)).isRegister = true
  owner : s.bus.owner (bBus p.1) = some g

/-- The event of such a byte. -/
def sentEvent (s : State) (g : AgentId) (p : Byte × Addr) : ExtEvent := .write g (bBus p.1) (busByte s.bus 0 p.2)

section
variable {n : Fin 8} {s t : State} {c : Channel} (h : OnlyChannel n s c t)
include h

theorem OnlyChannel.resolve_eq (a : Addr) : t.bus.resolve a = s.bus.resolve a := by rw [h.bus]; rfl

theorem OnlyChannel.owner_eq (a : Addr) : t.bus.owner a = s.bus.owner a := by rw [h.bus]; rfl

/-- The byte is sent, and nothing of the block changes. -/
theorem OnlyChannel.transfer_sends {g : AgentId} (hg : g ≠ .cpu) {p : Byte × Addr} (hp : Sends s g p) :
    OnlyChannel n s c (transfer false p.1 p.2 t) ∧
      (transfer false p.1 p.2 t).ext.events = sentEvent s g p :: t.ext.events := by
  obtain ⟨u, hu, hmoved⟩ := transfer_toB_of_readable (s := t) (wramConflict_of_ne hp.port p.2 t)
    ⟨hp.source.1, h.storage hp.source.2⟩
  rw [h.busByte_eq] at hu hmoved
  have hready := (h.setMdr (busByte s.bus 0 p.2)).waited hu
  rw [hmoved, busWrite_external ((hready.resolve_eq _).symm ▸ hp.register) ((hready.owner_eq _).trans hp.owner) hg]
  refine ⟨(hready.writeExternal g _ _).setMdr _, (writeExternal_events _ _ _ _).trans ?_⟩
  rw [hu.ext]
  rfl

/-- So are the bytes of a unit, in order. -/
theorem OnlyChannel.moveUnit_sends {g : AgentId} (hg : g ≠ .cpu) {l : List (Byte × Addr)}
    (hl : ∀ p ∈ l, Sends s g p) :
    OnlyChannel n s (unitAfter l.length c) (moveUnit n false l t) ∧
      (moveUnit n false l t).ext.events = (l.map (sentEvent s g)).reverse ++ t.ext.events := by
  induction l generalizing t c with
  | nil => exact ⟨h.congr (by unfold unitAfter; split <;> simp), rfl⟩
  | cons p l ih =>
    obtain ⟨hp, hl⟩ := List.forall_mem_cons.1 hl
    obtain ⟨hsent, hevent⟩ := (h.updCh (unitAfter_special 1 c)).transfer_sends hg hp
    obtain ⟨hrest, hevents⟩ := ih hsent hl
    refine ⟨?_, ?_⟩
    · rw [List.length_cons, Nat.add_comm, ← unitAfter_unitAfter]
      exact hrest
    · rw [moveUnit, hevents, hevent, List.map_cons, List.reverse_cons, List.append_assoc]
      rfl

end
/-! ### The line count of a channel (R465) -/

/-- The channel with a line counted (R465). -/
def Channel.countLine (left : Byte) (c : Channel) : Channel := { c with ntrl := left, hdmaDoTransfer := left.getLsbD 7 }

theorem nextNtrl_toNat (repeat128 : Bool) (v : Byte) :
    (nextNtrl repeat128 v).toNat =
      if repeat128 = true ∧ v.toNat = 128 then 255 else (v.toNat + 255) % 256 := by
  have hv : v = 0x80 ↔ v.toNat = 128 := BitVec.toNat_inj.symm
  simp only [nextNtrl, Bool.and_eq_true, decide_eq_true_eq, hv]
  split
  · rfl
  · rw [BitVec.toNat_sub, Nat.add_comm]
    rfl

theorem hdmaCountChannel_of_active {s : State} {n : Fin 8} (h : (s.ch n).hdmaActive = true) :
    hdmaCountChannel s n =
      hdmaReload n (s.updCh n (Channel.countLine (nextNtrl s.params.hdmaRepeat128 (s.ch n).ntrl))) := if_pos h


/-! ### A channel of an HDMA run (R465) -/

theorem hdmaActive_eq_true {c : Channel} (henabled : c.hdmaEnabled = true) (hcompleted : c.hdmaCompleted = false) :
    c.hdmaActive = true := by
  rw [Channel.hdmaActive, henabled, hcompleted]
  rfl

theorem hdmaActive_eq_false {c : Channel} (h : c.hdmaEnabled = false ∨ c.hdmaCompleted = true) : c.hdmaActive = false := by
  obtain h | h := h <;> simp [Channel.hdmaActive, h]

/-- The channel with its general DMA cancelled (R468). -/
def Channel.cancelDma (c : Channel) : Channel := { c with dmaEnabled := false }

theorem hdmaTransferChannel_of_active {s : State} {n : Fin 8} (h : (s.ch n).hdmaActive = true) :
    hdmaTransferChannel s n =
      if (s.ch n).hdmaDoTransfer then
        (List.range (unitLength (s.ch n).mode)).foldl (hdmaUnitByte n) (s.updCh n Channel.cancelDma)
      else s.updCh n Channel.cancelDma := by
  have hbegun : (s.updCh n Channel.cancelDma).ch n = (s.ch n).cancelDma := updCh_ch_self s n _
  have hrest : hdmaTransferChannel s n =
      if ((s.updCh n Channel.cancelDma).ch n).hdmaDoTransfer then
        (List.range (unitLength ((s.updCh n Channel.cancelDma).ch n).mode)).foldl (hdmaUnitByte n)
          (s.updCh n Channel.cancelDma)
      else s.updCh n Channel.cancelDma := if_pos h
  rw [hrest, hbegun]
  rfl

/-- The unit of an active channel that transfers on this line, moved byte after byte. -/
theorem hdmaTransferChannel_moves {s : State} {n : Fin 8} (hactive : (s.ch n).hdmaActive = true)
    (htransfer : (s.ch n).hdmaDoTransfer = true) (hcontained : Contained (bit (s.ch n).dmap.toNat 7) s) :
    hdmaTransferChannel s n =
      moveUnit n (bit (s.ch n).dmap.toNat 7) (unitOf (s.ch n)) (s.updCh n Channel.cancelDma) := by
  have hbegun : ((s.updCh n Channel.cancelDma).ch n).special = (unitAfter 0 (s.ch n).cancelDma).special := by
    rw [updCh_ch_self]
    unfold unitAfter
    split <;> simp
  rw [← byte_getLsbD_eq_bit] at hcontained ⊢
  rw [hdmaTransferChannel_of_active hactive, if_pos htransfer, unitOf_eq_map_range, List.range_eq_range']
  exact hdmaUnitBytes_eq_moveUnit (c := (s.ch n).cancelDma) _ hcontained hbegun

/-- The same, sent to another agent's registers. -/
theorem hdmaTransferChannel_sends {s : State} {n : Fin 8} (hactive : (s.ch n).hdmaActive = true)
    (htransfer : (s.ch n).hdmaDoTransfer = true) (htoB : bit (s.ch n).dmap.toNat 7 = false) {g : AgentId} (hg : g ≠ .cpu)
    (hunit : ∀ p ∈ unitOf (s.ch n), Sends s g p) :
    OnlyChannel n s (unitAfter (unitOf (s.ch n)).length (s.ch n).cancelDma) (hdmaTransferChannel s n) ∧
      (hdmaTransferChannel s n).ext.events = ((unitOf (s.ch n)).map (sentEvent s g)).reverse ++ s.ext.events := by
  rw [hdmaTransferChannel_moves hactive htransfer (.inr htoB), htoB]
  exact ((OnlyChannel.refl n s).updCh fun _ _ => rfl).moveUnit_sends hg hunit

theorem unitAfter_cancelDma (k : Nat) (c : Channel) :
    (unitAfter k c.cancelDma).registers = (unitAfter k c).registers ∧ (unitAfter k c.cancelDma).dmaEnabled = false := by
  unfold unitAfter Channel.cancelDma
  split <;> exact ⟨rfl, rfl⟩

/-- With lines left, the line is counted and nothing else happens. -/
theorem hdmaCountChannel_of_lines {s : State} {n : Fin 8} (hactive : (s.ch n).hdmaActive = true)
    (h : (nextNtrl s.params.hdmaRepeat128 (s.ch n).ntrl).toNat % 128 ≠ 0) :
    hdmaCountChannel s n = s.updCh n (Channel.countLine (nextNtrl s.params.hdmaRepeat128 (s.ch n).ntrl)) := by
  rw [hdmaCountChannel_of_active hactive, hdmaReload_of_lines]
  rw [updCh_ch_self]
  exact h

/-- With no lines left, the next entry is loaded. -/
theorem hdmaCountChannel_of_noLines {s : State} {n : Fin 8} (hactive : (s.ch n).hdmaActive = true)
    (h : (nextNtrl s.params.hdmaRepeat128 (s.ch n).ntrl).toNat % 128 = 0)
    (hread : ∀ k < (if entryPoints s.bus (s.ch n) then 3 else 1), Readable s (tableAddr (s.ch n) k)) :
    OnlyChannel n s (loadedEntry s.bus (s.ch n)) (hdmaCountChannel s n) ∧
      (entryPoints s.bus (s.ch n) = false →
        ((hdmaCountChannel s n).ch n).hdmaCompleted = decide (tableValue s.bus (s.ch n) 0 = 0) ∧
        ((hdmaCountChannel s n).ch n).hdmaDoTransfer = decide (tableValue s.bus (s.ch n) 0 ≠ 0)) := by
  have hcount := updCh_ch_self s n (Channel.countLine (nextNtrl s.params.hdmaRepeat128 (s.ch n).ntrl))
  rw [hdmaCountChannel_of_active hactive]
  obtain ⟨hstate, hbits⟩ := hdmaReload_reloaded (s := s.updCh n (Channel.countLine
    (nextNtrl s.params.hdmaRepeat128 (s.ch n).ntrl))) (n := n) (by rw [hcount]; exact h) (by rw [hcount]; exact hread)
  rw [hcount] at hstate hbits
  refine ⟨⟨hstate.cpu, hstate.io, hstate.bus, hstate.self, fun k hk => ?_⟩, hbits⟩
  rw [hstate.others k hk, updCh_ch, if_neg hk]

/-- Settles O60: the unit of an active channel (`hdmaTransferChannel_moves`, `hdmaTransferChannel_sends`) and its line count
(`hdmaCountChannel_of_lines`, `hdmaCountChannel_of_noLines`). -/
theorem hdmaRunChannel : Obligations.HdmaRunChannel := by
  unfold Obligations.HdmaRunChannel
  refine ⟨fun s n h => ?inactive, fun s n henabled hcompleted => ?transfer, fun s n henabled hcompleted => ?count⟩
  case inactive =>
    have hinactive : ¬ (s.ch n).hdmaActive = true := by rw [hdmaActive_eq_false h]; decide
    exact ⟨if_neg hinactive, if_neg hinactive⟩
  case transfer =>
    have hactive := hdmaActive_eq_true henabled hcompleted
    refine ⟨fun htransfer => ?_, fun htransfer hmmio => hdmaTransferChannel_moves hactive htransfer (.inl hmmio),
      fun htransfer htoB g hg hunit => ?_⟩
    · rw [hdmaTransferChannel_of_active hactive, htransfer]
      rfl
    · obtain ⟨hstate, hevents⟩ := hdmaTransferChannel_sends hactive htransfer htoB hg fun p hp =>
        have ⟨hvalid, hstorage, hport, hregister, howner⟩ := hunit p hp
        ⟨⟨hvalid, hstorage⟩, hport, hregister, howner⟩
      obtain ⟨hregisters, hcancelled⟩ := unitAfter_cancelDma (unitOf (s.ch n)).length (s.ch n)
      exact ⟨hevents, (Channel.registers_of_special hstate.self).trans hregisters,
        (Channel.dmaEnabled_of_special hstate.self).trans hcancelled, hstate.cpu, hstate.io, hstate.sameMemory,
        fun k hk =>
          ⟨Channel.registers_of_special (hstate.others k hk), Channel.dmaEnabled_of_special (hstate.others k hk)⟩⟩
  case count =>
    have hactive := hdmaActive_eq_true henabled hcompleted
    dsimp only
    rw [← nextNtrl_toNat]
    refine ⟨fun hleft => ?_, fun hleft hread => ?_⟩
    · rw [hdmaCountChannel_of_lines hactive hleft, BitVec.ofNat_toNat, BitVec.setWidth_eq, ← byte_getLsbD_eq_bit]
      rfl
    · obtain ⟨hstate, hbits⟩ := hdmaCountChannel_of_noLines hactive hleft hread
      exact ⟨Channel.registers_of_special hstate.self, fun h => (hbits h).symm, hstate.cpu, hstate.sameMemory, fun k hk =>
         Channel.registers_of_special (hstate.others k hk)⟩

end Sys2Proof.Machine
end

section
/-! PROOFS. The bytes and the channels of a general DMA while HDMA is off (45_dma_hdma.md R448, R453, R455). -/

namespace Sys2Proof.Machine
open Sys2Proof.Claims

/-! ### HDMA off -/

/-- No per-line HDMA event is pending and no channel has HDMA enabled. -/
structure HdmaOff (s : State) : Prop where
  pending : s.dma.hdmaPending = false
  enabled : ∀ n : Fin 8, (s.ch n).hdmaEnabled = false

theorem HdmaOff.of_sameEngine {s t : State} (h : HdmaOff s) (ht : SameEngine s t) : HdmaOff t where
  pending := (ht.hdmaPending h.enabled).trans h.pending
  enabled n := (Channel.hdmaEnabled_of_special (ht.special n)).trans (h.enabled n)

theorem HdmaOff.updCh {s : State} (h : HdmaOff s) (n : Fin 8) {f : Channel → Channel}
    (hf : ∀ c, (f c).hdmaEnabled = c.hdmaEnabled) : HdmaOff (s.updCh n f) where
  pending := h.pending
  enabled k := by
    rw [updCh_ch]
    split
    · exact (hf _).trans (h.enabled n)
    · exact h.enabled k

theorem HdmaOff.serviceHdma_eq {s : State} (h : HdmaOff s) : serviceHdma s = s := by
  rw [serviceHdma, h.pending, if_neg (by decide)]

theorem HdmaOff.dmaOverhead {s : State} (h : HdmaOff s) (k : Nat) : Waited s (dmaOverhead k s) := by
  have hwaited := (Waited.refl s).spendOverhead k
  rw [Machine.dmaOverhead, (h.of_sameEngine hwaited.engine).serviceHdma_eq]
  exact hwaited

/-! ### Changes of one channel -/

theorem updCh_eq_self {s : State} {n : Fin 8} {f : Channel → Channel} (h : f (s.ch n) = s.ch n) : s.updCh n f = s := by
  rw [updCh_congr (g := id) h, State.updCh]
  simp

/-- What the controller's work makes of the channels: channel n is f n, the two HDMA bits aside. The memory map and a
pending DMA are the same, and HDMA stays off. -/
structure Moved (s t : State) (f : Fin 8 → Channel) : Prop where
  maps : t.bus.maps = s.bus.maps
  pending : t.dma.pending = s.dma.pending
  off : HdmaOff s → HdmaOff t
  channels : ∀ n : Fin 8, (t.ch n).special = (f n).special

theorem Moved.refl (s : State) : Moved s s s.ch := ⟨rfl, rfl, id, fun _ => rfl⟩

theorem Moved.trans {s t u : State} {f g : Fin 8 → Channel} (h : Moved s t f) (k : Moved t u g) : Moved s u g :=
  ⟨k.maps.trans h.maps, k.pending.trans h.pending, k.off ∘ h.off, k.channels⟩

theorem Moved.congr {s t : State} {f g : Fin 8 → Channel} (h : Moved s t f) (hg : ∀ n, (g n).special = (f n).special) :
    Moved s t g := ⟨h.maps, h.pending, h.off, fun n => (h.channels n).trans (hg n).symm⟩

theorem SameEngine.moved {s t : State} (h : SameEngine s t) : Moved s t s.ch :=
  ⟨h.maps, h.pending, fun hoff => hoff.of_sameEngine h, h.special⟩

theorem Moved.mmio {s t : State} {f : Fin 8 → Channel} (h : Moved s t f) (hmmio : SystemMmio s) : SystemMmio t :=
  fun r hr => hmmio r (h.maps ▸ hr)

theorem Moved.contained {s t : State} {f : Fin 8 → Channel} (h : Moved s t f) {toA toA' : Bool} (hs : Contained toA s)
    (htoA : toA' = toA) : Contained toA' t := hs.imp h.mmio htoA.trans

theorem Moved.updCh {s t : State} {f : Fin 8 → Channel} (h : Moved s t f) (n : Fin 8) {g : Channel → Channel}
    (hg : ∀ c x y, (g { c with hdmaCompleted := x, hdmaDoTransfer := y }).special = (g c).special)
    (henabled : ∀ c, (g c).hdmaEnabled = c.hdmaEnabled) : Moved s (t.updCh n g) (Function.update f n (g (f n))) where
  maps := h.maps
  pending := h.pending
  off hoff := (h.off hoff).updCh n henabled
  channels k := by
    by_cases hk : k = n
    · subst hk
      obtain ⟨x, y, hc⟩ := Channel.special_eq_iff.1 (h.channels k)
      rw [updCh_ch_self, Function.update_self, hc, hg]
    · rw [updCh_ch, if_neg hk, Function.update_of_ne hk]
      exact h.channels k

/-! ### One byte (R448) -/

/-- The A-bus address past a byte. -/
def Channel.stepA1t (c : Channel) : Channel := { c with a1t := c.nextA1t }

/-- One byte counted. -/
def Channel.countByte (c : Channel) : Channel := { c with das := c.das - 1 }

/-- The state in which the access of channel n's next byte begins: the address and the loop index have moved on. -/
def byteBegun (n : Fin 8) (s : State) : State :=
  { s.updCh n Channel.stepA1t with dma := { (s.updCh n Channel.stepA1t).dma with index := s.dma.index + 1 } }

theorem dmaByte_eq_transfer (n : Fin 8) (s : State) :
    dmaByte n s = (transfer (s.ch n).toA ((s.ch n).bAddr s.dma.index) (long (s.ch n).a1b (s.ch n).a1t)
      (byteBegun n s)).updCh n Channel.countByte := rfl

theorem byteBegun_moved (n : Fin 8) (s : State) :
    Moved s (byteBegun n s) (Function.update s.ch n (s.ch n).stepA1t) := by
  obtain ⟨hmaps, hpending, hoff, hchannels⟩ :=
    (Moved.refl s).updCh n (g := Channel.stepA1t) (fun _ _ _ => rfl) fun _ => rfl
  exact ⟨hmaps, hpending, fun h => ⟨(hoff h).pending, (hoff h).enabled⟩, hchannels⟩

/-- The channel after a byte. -/
def Channel.byteDone (c : Channel) : Channel := c.stepA1t.countByte

theorem byteDone_toA (c : Channel) : c.byteDone.toA = c.toA := rfl
theorem byteDone_dmaEnabled (c : Channel) : c.byteDone.dmaEnabled = c.dmaEnabled := rfl

theorem dmaByte_moved {n : Fin 8} {s : State} (h : Contained (s.ch n).toA s) :
    Moved s (dmaByte n s) (Function.update s.ch n (s.ch n).byteDone) := by
  have hbegun := byteBegun_moved n s
  have hmoved := transfer_sameEngine (hbegun.contained h rfl) ((s.ch n).bAddr s.dma.index) (long (s.ch n).a1b (s.ch n).a1t)
  have hdone := ((hbegun.trans hmoved.moved).congr fun k => (hbegun.channels k).symm).updCh n
    (g := Channel.countByte) (fun _ _ _ => rfl) fun _ => rfl
  rw [dmaByte_eq_transfer]
  refine hdone.congr fun k => ?_
  rw [Function.update_self, Function.update_idem]
  rfl

theorem dmaByte_self {n : Fin 8} {s : State} (h : Contained (s.ch n).toA s) :
    ((dmaByte n s).ch n).special = (s.ch n).byteDone.special := by
  rw [(dmaByte_moved h).channels, Function.update_self]

/-! ### The bytes of a channel (R448, R453) -/

/-- The channel after m bytes. -/
def Channel.bytesDone (m : Nat) (c : Channel) : Channel :=
  { c with a1t := a1tAfter c m, das := c.das - BitVec.ofNat 16 m }

theorem a1tAfter_zero (c : Channel) : a1tAfter c 0 = c.a1t := by
  unfold a1tAfter
  split
  · rfl
  · split <;> simp

/-- A byte more (R448). -/
theorem a1tAfter_byteDone (c : Channel) (m : Nat) : a1tAfter c.byteDone m = a1tAfter c (m + 1) := by
  have hnext : c.byteDone.a1t =
      if bit c.dmap.toNat 3 then c.a1t else if bit c.dmap.toNat 4 then c.a1t - 1 else c.a1t + 1 := by
    rw [← byte_getLsbD_eq_bit, ← byte_getLsbD_eq_bit]
    rfl
  have hdmap : c.byteDone.dmap = c.dmap := rfl
  unfold a1tAfter
  rw [hdmap, hnext, ofNat_succ]
  split
  · rfl
  · split
    · rw [BitVec.sub_sub]
    · rw [BitVec.add_assoc]

theorem bytesDone_byteDone (c : Channel) (m : Nat) : c.byteDone.bytesDone m = c.bytesDone (m + 1) := by
  have hdas : c.das - 1 - BitVec.ofNat 16 m = c.das - BitVec.ofNat 16 (m + 1) := by rw [ofNat_succ, BitVec.sub_sub]
  rw [Channel.bytesDone, Channel.bytesDone, a1tAfter_byteDone, ← hdas]
  rfl

theorem bytesDone_special {c d : Channel} (h : d.special = c.special) (m : Nat) :
    (d.bytesDone m).special = (c.bytesDone m).special := by
  obtain ⟨x, y, rfl⟩ := Channel.special_eq_iff.1 h
  rfl

theorem toA_of_special {c d : Channel} (h : d.special = c.special) : d.toA = c.toA := by
  obtain ⟨x, y, rfl⟩ := Channel.special_eq_iff.1 h
  rfl

/-- m bytes of channel n, one after another. -/
theorem dmaBytes_moved {n : Fin 8} (m : Nat) {s : State} (h : Contained (s.ch n).toA s) :
    Moved s (iterate (dmaByte n) m s) (Function.update s.ch n ((s.ch n).bytesDone m)) := by
  induction m generalizing s with
  | zero =>
    refine (Moved.refl s).congr fun k => ?_
    have hzero : (s.ch n).bytesDone 0 = s.ch n := by
      rw [Channel.bytesDone, a1tAfter_zero, BitVec.sub_zero]
    rw [hzero, Function.update_eq_self]
  | succ m ih =>
    have hbyte := dmaByte_moved h
    have hself := dmaByte_self h
    have hcontained : Contained ((dmaByte n s).ch n).toA (dmaByte n s) :=
      hbyte.contained h ((toA_of_special hself).trans (byteDone_toA _))
    refine (hbyte.trans (ih hcontained)).congr fun k => ?_
    by_cases hk : k = n
    · subst hk
      rw [Function.update_self, Function.update_self, bytesDone_special hself, bytesDone_byteDone]
    · rw [Function.update_of_ne hk, Function.update_of_ne hk, hbyte.channels, Function.update_of_ne hk]

theorem count_le (c : Channel) : count c ≤ 65536 := by
  have := c.das.isLt
  unfold count
  split <;> omega

theorem das_byteDone_toNat (c : Channel) : c.byteDone.das.toNat = (c.das.toNat + 65535) % 65536 := by
  have hdas : c.byteDone.das = c.das - 1 := rfl
  rw [hdas, BitVec.toNat_sub, Nat.add_comm]
  rfl

theorem count_of_das_eq_zero {c : Channel} (h : c.byteDone.das = 0) : count c = 1 := by
  have hlt := c.das.isLt
  have htoNat := das_byteDone_toNat c
  rw [h] at htoNat
  have hone : c.das.toNat = 1 := by
    have : (0 : Word).toNat = 0 := rfl
    omega
  rw [count, hone]
  rfl

theorem count_of_das_ne_zero {c : Channel} (h : c.byteDone.das ≠ 0) : count c = count c.byteDone + 1 := by
  have hlt := c.das.isLt
  have htoNat := das_byteDone_toNat c
  have hne : c.byteDone.das.toNat ≠ 0 := fun hzero => h (BitVec.eq_of_toNat_eq hzero)
  unfold count
  rw [if_neg hne]
  split <;> omega

theorem count_of_special {c d : Channel} (h : d.special = c.special) : count d = count c := by
  obtain ⟨x, y, rfl⟩ := Channel.special_eq_iff.1 h
  rfl

theorem das_of_special {c d : Channel} (h : d.special = c.special) : d.das = c.das := by
  obtain ⟨x, y, rfl⟩ := Channel.special_eq_iff.1 h
  rfl

theorem dmaBytes_of_disabled {n : Fin 8} {s : State} (h : (s.ch n).dmaEnabled = false) (k : Nat) : dmaBytes n k s = s := by
  cases k with
  | zero => rfl
  | succ k => rw [dmaBytes, h, if_neg (by decide)]

theorem iterate_succ (f : State → State) (m : Nat) (s : State) : iterate f (m + 1) s = iterate f m (f s) := rfl

/-- A channel's loop moves exactly the bytes of its count (R448, R453). -/
theorem dmaBytes_eq_iterate {n : Fin 8} {k : Nat} {s : State} (hoff : HdmaOff s) (hcontained : Contained (s.ch n).toA s)
    (henabled : (s.ch n).dmaEnabled = true) (hk : count (s.ch n) ≤ k) :
    dmaBytes n k s = iterate (dmaByte n) (count (s.ch n)) s := by
  induction k generalizing s with
  | zero =>
    unfold count at hk
    split at hk <;> omega
  | succ k ih =>
    have hbyte := dmaByte_moved hcontained
    have hself := dmaByte_self hcontained
    have hstep : dmaBytes n (k + 1) s =
        if decide (((dmaByte n s).ch n).das = 0) then dmaByte n s else dmaBytes n k (dmaByte n s) := by
      rw [dmaBytes, henabled, if_pos rfl, (hbyte.off hoff).serviceHdma_eq]
    rw [hstep, das_of_special hself]
    by_cases hzero : (s.ch n).byteDone.das = 0
    · rw [if_pos (decide_eq_true hzero), count_of_das_eq_zero hzero]
      rfl
    · have hcount := count_of_das_ne_zero hzero
      rw [← count_of_special hself] at hcount
      rw [if_neg (by simpa using hzero), hcount, iterate_succ]
      generalize dmaByte n s = t at hbyte hself hcount ⊢
      exact ih (hbyte.off hoff) (hbyte.contained hcontained ((toA_of_special hself).trans (byteDone_toA _)))
        ((Channel.dmaEnabled_of_special hself).trans ((byteDone_dmaEnabled _).trans henabled)) (by omega)

/-! ### The channels (R448) -/

/-- The channel when its transfer is over. -/
def Channel.finished (c : Channel) : Channel := { c with das := 0, a1t := a1tAfter c (count c), dmaEnabled := false }

theorem cancelDma_bytesDone_count (c : Channel) : (c.bytesDone (count c)).cancelDma = c.finished := by
  have hdas : c.das - BitVec.ofNat 16 (count c) = 0 := by
    apply BitVec.eq_of_toNat_eq
    have hlt := c.das.isLt
    have hzero : (0 : Word).toNat = 0 := rfl
    rw [BitVec.toNat_sub, BitVec.toNat_ofNat, hzero, count]
    split <;> omega
  rw [Channel.bytesDone, hdas]
  rfl

section
variable {n : Fin 8} {s : State} (hoff : HdmaOff s) (hcontained : Contained (s.ch n).toA s)
  (henabled : (s.ch n).dmaEnabled = true)
include hoff hcontained henabled

theorem dmaChannelRest_eq_iterate :
    dmaChannelRest n s = (iterate (dmaByte n) (count (s.ch n)) s).updCh n Channel.cancelDma := by
  rw [dmaChannelRest, dmaBytes_eq_iterate hoff hcontained henabled (count_le _)]
  rfl

theorem dmaChannelRest_moved : Moved s (dmaChannelRest n s) (Function.update s.ch n (s.ch n).finished) := by
  rw [dmaChannelRest_eq_iterate hoff hcontained henabled]
  refine ((dmaBytes_moved _ hcontained).updCh n (g := Channel.cancelDma) (fun _ _ _ => rfl) fun _ => rfl).congr fun k => ?_
  rw [Function.update_self, Function.update_idem, cancelDma_bytesDone_count]

end

theorem dmaChannelRest_of_disabled {n : Fin 8} {s : State} (h : (s.ch n).dmaEnabled = false) : dmaChannelRest n s = s := by
  rw [dmaChannelRest, dmaBytes_of_disabled h]
  refine updCh_eq_self ?_
  rw [← h]

/-- A channel is started after its overhead (R443, R448). -/
theorem dmaStartChannel_moved {s : State} (h : HdmaOff s) (n : Fin 8) : Moved s (dmaStartChannel n s) s.ch := by
  obtain ⟨hmaps, hpending, hoff, hchannels⟩ := (h.dmaOverhead s.params.dmaChannelOverhead).engine.moved
  exact ⟨hmaps, hpending, fun h => ⟨(hoff h).pending, (hoff h).enabled⟩, hchannels⟩

theorem dmaRunChannel_of_disabled {s : State} {n : Fin 8} (h : (s.ch n).dmaEnabled = false) : dmaRunChannel s n = s := by
  rw [dmaRunChannel, h, if_neg (by decide)]

theorem dmaRunChannel_of_enabled {s : State} {n : Fin 8} (h : (s.ch n).dmaEnabled = true) :
    dmaRunChannel s n = dmaChannelRest n (dmaStartChannel n s) := if_pos h

theorem dmaRunChannels_of_disabled {l : List (Fin 8)} {s : State} (h : ∀ n ∈ l, (s.ch n).dmaEnabled = false) :
    l.foldl dmaRunChannel s = s := by
  induction l with
  | nil => rfl
  | cons n l ih =>
    obtain ⟨hn, hl⟩ := List.forall_mem_cons.1 h
    rw [List.foldl_cons, dmaRunChannel_of_disabled hn, ih hl]

/-- The channel after its turn. -/
def Channel.served (c : Channel) : Channel := if c.dmaEnabled then c.finished else c

theorem served_special {c d : Channel} (h : d.special = c.special) : d.served.special = c.served.special := by
  obtain ⟨x, y, rfl⟩ := Channel.special_eq_iff.1 h
  unfold Channel.served
  split <;> rfl

theorem dmaRunChannel_moved {s : State} (hoff : HdmaOff s) {n : Fin 8} (hcontained : Contained (s.ch n).toA s) :
    Moved s (dmaRunChannel s n) (Function.update s.ch n (s.ch n).served) := by
  cases h : (s.ch n).dmaEnabled with
  | false =>
    rw [dmaRunChannel_of_disabled h, Channel.served, h, if_neg (by decide), Function.update_eq_self]
    exact .refl s
  | true =>
    have hstart := dmaStartChannel_moved hoff n
    have hself := hstart.channels n
    have hrest := dmaChannelRest_moved (n := n) (hstart.off hoff) (hstart.contained hcontained (toA_of_special hself))
      ((Channel.dmaEnabled_of_special hself).trans h)
    rw [dmaRunChannel_of_enabled h]
    refine (hstart.trans hrest).congr fun k => ?_
    by_cases hk : k = n
    · subst hk
      rw [Function.update_self, Function.update_self, Channel.served, h, if_pos rfl]
      obtain ⟨x, y, hc⟩ := Channel.special_eq_iff.1 hself
      rw [hc]
      rfl
    · rw [Function.update_of_ne hk, Function.update_of_ne hk, hstart.channels]

/-- The channels of a list take their turns (R448). -/
theorem dmaRunChannels_moved {l : List (Fin 8)} (hl : l.Nodup) {s : State} (hoff : HdmaOff s) (hmmio : SystemMmio s) :
    Moved s (l.foldl dmaRunChannel s) fun n => if n ∈ l then (s.ch n).served else s.ch n := by
  induction l generalizing s with
  | nil => exact .refl s
  | cons n l ih =>
    obtain ⟨hn, hl⟩ := List.nodup_cons.1 hl
    have hturn := dmaRunChannel_moved hoff (n := n) (.inl hmmio)
    refine (hturn.trans (ih hl (hturn.off hoff) (hturn.mmio hmmio))).congr fun k => ?_
    by_cases hk : k = n
    · subst hk
      have hself := hturn.channels k
      rw [Function.update_self] at hself
      rw [if_pos (List.mem_cons_self ..), if_neg hn, hself]
    · have hother := hturn.channels k
      rw [Function.update_of_ne hk] at hother
      by_cases hmem : k ∈ l
      · rw [if_pos (List.mem_cons_of_mem _ hmem), if_pos hmem, served_special hother]
      · rw [if_neg (by simp [hk, hmem]), if_neg hmem, hother]

end Sys2Proof.Machine
end

section
/-! PROOFS. A general DMA runs to its end, and leads to the same state wherever it is suspended (45_dma_hdma.md R441, R442,
R448, R454). -/

namespace Sys2Proof.Machine
open Sys2Proof.Claims

/-! ### The activation in one piece -/

/-- The bus is given back. -/
def giveBack (s : State) : State := { s with dma := { s.dma with active := false } }

theorem startCycle_of_running {s : State} (hactive : s.dma.active = true) (hrunning : s.dma.running = true) :
    startCycle s = giveBack (dmaResume s) := by
  rw [startCycle, hactive, if_pos rfl, runActivation, hrunning, if_pos rfl]
  rfl

theorem startCycle_of_pending {s : State} (hoff : HdmaOff s) (hactive : s.dma.active = true)
    (hrunning : s.dma.running = false) (hpending : s.dma.pending = true) : startCycle s = giveBack (dmaRun s) := by
  rw [startCycle, hactive, if_pos rfl, runActivation, hrunning, if_neg (by decide), hoff.serviceHdma_eq, serviceDma,
    hpending, hoff.pending]
  rfl

theorem startCycle_of_nothing {s : State} (hoff : HdmaOff s) (hactive : s.dma.active = true)
    (hrunning : s.dma.running = false) (hpending : s.dma.pending = false) : startCycle s = giveBack s := by
  rw [startCycle, hactive, if_pos rfl, runActivation, hrunning, if_neg (by decide), hoff.serviceHdma_eq, serviceDma,
    hpending]
  rfl

theorem dmaBegin_moved {s : State} (h : HdmaOff s) :
    (dmaBegin s).bus.maps = s.bus.maps ∧ (dmaBegin s).dma.pending = false ∧ HdmaOff (dmaBegin s) ∧
      ∀ n : Fin 8, ((dmaBegin s).ch n).special = (s.ch n).special := by
  have hbegun : HdmaOff { s with dma := { s.dma with pending := false, running := true } } := ⟨h.pending, h.enabled⟩
  have hwaited := (hbegun.dmaOverhead s.params.dmaSyncOverhead).engine
  exact ⟨hwaited.maps, hwaited.pending, hbegun.of_sameEngine hwaited, hwaited.special⟩

/-! ### The byte in progress (R454) -/

/-- HDMA is off, the dispatcher is mapped as in the fixed map, and channel m is the one in progress. -/
structure CalmAt (m : Fin 8) (s : State) : Prop where
  mmio : SystemMmio s
  off : HdmaOff s
  channel : s.dma.channel = m

section
variable {m : Fin 8} {s : State} (h : CalmAt m s)
include h

theorem CalmAt.of_sameEngine {t : State} (ht : SameEngine s t) : CalmAt m t :=
  ⟨ht.moved.mmio h.mmio, h.off.of_sameEngine ht, ht.channel.trans h.channel⟩

theorem CalmAt.updCh (n : Fin 8) {f : Channel → Channel} (hf : ∀ c, (f c).hdmaEnabled = c.hdmaEnabled) :
    CalmAt m (s.updCh n f) := ⟨h.mmio, h.off.updCh n hf, h.channel⟩

theorem CalmAt.readHalf (toA : Bool) (b : Byte) (a : Addr) : CalmAt m (readHalf toA b a s) := by
  unfold Machine.readHalf
  split
  · exact h
  · split
    · exact h.of_sameEngine (busRead_sameEngine _ s)
    · exact h.of_sameEngine (dmaRead_sameEngine a s)

theorem CalmAt.writeHalf (toA : Bool) (b : Byte) (a : Addr) : CalmAt m (writeHalf toA b a s) := by
  unfold Machine.writeHalf
  split
  · split
    · exact h.of_sameEngine ((dmaWrite_sameEngine h.mmio a _).trans (setMdr_sameEngine _ _))
    · exact h
  · split
    · exact h.of_sameEngine (dmaWrite_sameEngine h.mmio a _)
    · exact h.of_sameEngine (busWrite_bBus_sameEngine b _ s)

theorem CalmAt.endByte (n : Fin 8) : CalmAt m (endByte n s) := by
  have hticked := h.of_sameEngine ((Waited.refl s).dmaUnitEvent).engine
  have hcounted := (hticked.writeHalf (s.ch n).toA (bInProgress n s) (aInProgress n s)).updCh n
    (f := fun c => { c with das := c.das - 1 }) fun _ => rfl
  unfold Machine.endByte
  dsimp only
  rw [hcounted.off.serviceHdma_eq]
  split
  · exact hcounted.updCh n fun _ => rfl
  · exact hcounted

theorem CalmAt.byteClock (n : Fin 8) : CalmAt m (byteClock n s) := by
  have hpaid := h.of_sameEngine ((Waited.refl s).pay 1).engine
  unfold Machine.byteClock
  dsimp only
  split
  · exact hpaid.readHalf _ _ _
  · split
    · exact hpaid.endByte n
    · exact hpaid

theorem CalmAt.startByte (n : Fin 8) : CalmAt m (startByte n s) := by
  have hmoved := h.updCh n (f := fun c => { c with a1t := c.nextA1t }) fun _ => rfl
  exact ⟨hmoved.mmio, ⟨hmoved.off.pending, hmoved.off.enabled⟩, hmoved.channel⟩

end

/-- A byte by its clocks, and then the rest of its channel, is the channel's rest from before the byte. -/
theorem dmaChannelRest_byteClocks {n : Fin 8} {s : State} (hoff : HdmaOff s) (hcontained : Contained (s.ch n).toA s)
    (henabled : (s.ch n).dmaEnabled = true) :
    dmaChannelRest n (iterate (byteClock n) 8 (startByte n s)) = dmaChannelRest n s := by
  have hbyte := dmaByte_moved hcontained
  have hself := dmaByte_self hcontained
  rw [byteClocks_eq, (hbyte.off hoff).serviceHdma_eq, dmaChannelRest_eq_iterate hoff hcontained henabled]
  dsimp only
  have hdas := das_of_special hself
  have hcount := count_of_special hself
  by_cases hzero : (s.ch n).byteDone.das = 0
  · have hdisabled : (((dmaByte n s).updCh n Channel.cancelDma).ch n).dmaEnabled = false := by rw [updCh_ch_self]; rfl
    rw [hdas, if_pos (decide_eq_true hzero), count_of_das_eq_zero hzero]
    exact dmaChannelRest_of_disabled hdisabled
  · rw [hdas, if_neg (by simpa using hzero), count_of_das_ne_zero hzero, iterate_succ, ← hcount]
    generalize dmaByte n s = t at hbyte hself ⊢
    exact dmaChannelRest_eq_iterate (hbyte.off hoff)
      (hbyte.contained hcontained ((toA_of_special hself).trans (byteDone_toA _)))
      ((Channel.dmaEnabled_of_special hself).trans ((byteDone_dmaEnabled _).trans henabled))

/-! ### The next channel -/

theorem channelsAfter_filter (n : Fin 8) :
    ∀ m ∈ channelsAfter n, (channelsAfter n).filter (fun k => decide (m < k)) = channelsAfter m := by
  revert n
  decide

theorem channelsAfter_pairwise (n : Fin 8) : (channelsAfter n).Pairwise (· < ·) := by
  revert n
  decide

/-- Channels in ascending order that lack none behind the first: `channelNumbers`, and the channels after one. -/
structure Ascending (l : List (Fin 8)) : Prop where
  pairwise : l.Pairwise (· < ·)
  filter : ∀ m ∈ l, l.filter (fun k => decide (m < k)) = channelsAfter m

theorem channelsAfter_ascending (n : Fin 8) : Ascending (channelsAfter n) :=
  ⟨channelsAfter_pairwise n, channelsAfter_filter n⟩

theorem channelNumbers_ascending : Ascending channelNumbers := ⟨by decide, fun _ _ => rfl⟩

/-- What stands behind a channel of such a list are the channels after it. -/
theorem Ascending.rest_eq {pre rest : List (Fin 8)} {m : Fin 8} (h : Ascending (pre ++ m :: rest)) :
    rest = channelsAfter m := by
  obtain ⟨-, hrest, hpre⟩ := List.pairwise_append.1 h.pairwise
  obtain ⟨hgreater, -⟩ := List.pairwise_cons.1 hrest
  have hnone : pre.filter (fun k => decide (m < k)) = [] := by
    rw [List.filter_eq_nil_iff]
    intro k hk
    have := hpre k hk m (List.mem_cons_self ..)
    simpa using le_of_lt this
  have hall : rest.filter (fun k => decide (m < k)) = rest := by
    rw [List.filter_eq_self]
    exact fun k hk => decide_eq_true (hgreater k hk)
  rw [← h.filter m (by simp), List.filter_append, hnone, List.filter_cons, hall]
  simp

/-- The channel selected and its successors, run from where they stand suspended, are the channels' turns. -/
theorem startCycle_dmaSelect {l : List (Fin 8)} (hl : Ascending l) {s : State} (h : Progress true true 0 s) :
    startCycle (dmaSelect l s) = giveBack (dmaEnd (l.foldl dmaRunChannel s)) := by
  unfold dmaSelect
  cases hfind : l.find? (fun n => (s.ch n).dmaEnabled) with
  | none =>
    have hdisabled : ∀ n ∈ l, (s.ch n).dmaEnabled = false := by simpa using hfind
    rw [dmaRunChannels_of_disabled hdisabled]
    exact startCycle_idle rfl
  | some m =>
    obtain ⟨henabled, pre, rest, rfl, hpre⟩ := List.find?_eq_some_iff_append.1 hfind
    have hdisabled : ∀ n ∈ pre, (s.ch n).dmaEnabled = false := by simpa using hpre
    have hstarted := h.dmaStartChannel m
    have hclocks := hstarted.clocks
    have hchannel : (dmaStartChannel m s).dma.channel = m := rfl
    rw [List.foldl_append, dmaRunChannels_of_disabled hdisabled, List.foldl_cons, dmaRunChannel_of_enabled henabled,
      hl.rest_eq]
    dsimp only
    rw [startCycle_of_running hstarted.active hstarted.running, dmaResume, hchannel, hclocks]
    rfl

/-! ### The controller's own steps (R454) -/

/-- What a suspended DMA keeps: HDMA off, the fixed map's banks, and the ranges of the controller's progress. -/
structure Suspended (s : State) : Prop where
  mmio : SystemMmio s
  off : HdmaOff s
  range : s.dma.InRange

theorem Suspended.calmAt {s : State} (h : Suspended s) : CalmAt s.dma.channel s := ⟨h.mmio, h.off, rfl⟩

theorem dmaSelect_keeps {s : State} (hmmio : SystemMmio s) (hoff : HdmaOff s) (l : List (Fin 8)) :
    SystemMmio (dmaSelect l s) ∧ HdmaOff (dmaSelect l s) := by
  unfold dmaSelect
  split
  next n _ =>
    have hstarted := dmaStartChannel_moved hoff n
    exact ⟨hstarted.mmio hmmio, hstarted.off hoff⟩
  next => exact ⟨hmmio, hoff.pending, hoff.enabled⟩

/-- One master clock, or one selection, leaves a DMA suspended. -/
theorem Suspended.dmaClock {s : State} (h : Suspended s) : Suspended (dmaClock s) := by
  have hcalm : SystemMmio (Machine.dmaClock s) ∧ HdmaOff (Machine.dmaClock s) := by
    unfold Machine.dmaClock
    dsimp only
    rw [h.off.serviceHdma_eq]
    split
    · exact ⟨h.mmio, h.off⟩
    · split
      · have hclocked := h.calmAt.byteClock s.dma.channel
        exact ⟨hclocked.mmio, hclocked.off⟩
      · split
        · split
          · have hclocked := (h.calmAt.startByte s.dma.channel).byteClock s.dma.channel
            exact ⟨hclocked.mmio, hclocked.off⟩
          · exact dmaSelect_keeps h.mmio h.off _
        · split
          · obtain ⟨hmaps, -, hoff, -⟩ := dmaBegin_moved h.off
            exact dmaSelect_keeps (fun r hr => h.mmio r (hmaps ▸ hr)) hoff _
          · exact ⟨h.mmio, h.off.pending, h.off.enabled⟩
  exact ⟨hcalm.1, hcalm.2, dmaClock_inRange h.range⟩

/-- A clock of the byte in progress leaves the same to be done. -/
theorem startCycle_byteClock {s : State} (h : CalmAt s.dma.channel s) {k : Nat} (hprogress : Progress true true (k + 1) s) :
    startCycle (byteClock s.dma.channel s) = giveBack (dmaResume s) := by
  have hclocked := hprogress.byteClock s.dma.channel
  rw [startCycle_of_running hclocked.active hclocked.running,
    dmaResume_byteClock hprogress.clocks hclocked.clocks (h.byteClock s.dma.channel).channel]

/-- What is left of a DMA between two bytes. -/
theorem dmaResume_of_clocks_zero {s : State} (h : s.dma.clocks = 0) :
    dmaResume s = dmaEnd ((channelsAfter s.dma.channel).foldl dmaRunChannel (dmaChannelRest s.dma.channel s)) := by
  rw [dmaResume, h]
  rfl

/-- A byte that begins is what was left to be done. -/
theorem dmaResume_startByte {s : State} (h : Suspended s) (hclocks : s.dma.clocks = 0)
    (henabled : (s.ch s.dma.channel).dmaEnabled = true) : dmaResume (startByte s.dma.channel s) = dmaResume s := by
  rw [dmaResume_of_clocks_zero hclocks, ← dmaChannelRest_byteClocks h.off (.inl h.mmio) henabled]
  rfl

/-- A step of the controller alone leaves the same to be done (R454). -/
theorem startCycle_dmaClock {s : State} (h : Suspended s) : startCycle (dmaClock s) = startCycle s := by
  unfold dmaClock
  dsimp only
  rw [h.off.serviceHdma_eq]
  split
  next => rfl
  next hactive =>
    have hactive : s.dma.active = true := by simpa using hactive
    split
    next howed =>
      obtain ⟨k, hk⟩ := Nat.exists_eq_succ_of_ne_zero howed
      have hrunning := h.range.running howed
      rw [startCycle_byteClock h.calmAt ⟨hactive, hrunning, hk⟩, startCycle_of_running hactive hrunning]
    next howed =>
      have hclocks : s.dma.clocks = 0 := by simpa using howed
      split
      next hrunning =>
        have hprogress : Progress true true 0 s := ⟨hactive, hrunning, hclocks⟩
        rw [startCycle_of_running hactive hrunning]
        split
        next henabled =>
          rw [← dmaResume_startByte h hclocks henabled]
          exact startCycle_byteClock (h.calmAt.startByte s.dma.channel) (hprogress.startByte s.dma.channel)
        next hdisabled =>
          rw [startCycle_dmaSelect (channelsAfter_ascending _) hprogress, dmaResume_of_clocks_zero hclocks,
            dmaChannelRest_of_disabled (by simpa using hdisabled)]
      next hrunning =>
        have hrunning : s.dma.running = false := by simpa using hrunning
        have hprogress : Progress true false 0 s := ⟨hactive, hrunning, hclocks⟩
        split
        next hdue =>
          have hpending : s.dma.pending = true := by simpa [h.off.pending] using hdue
          rw [startCycle_of_pending h.off hactive hrunning hpending]
          exact startCycle_dmaSelect channelNumbers_ascending hprogress.dmaBegin
        next hdue =>
          have hpending : s.dma.pending = false := by simpa [h.off.pending] using hdue
          rw [startCycle_of_nothing h.off hactive hrunning hpending]
          exact startCycle_idle (s := giveBack s) rfl

/-- However many of its own steps the controller has taken, what is left leads to the same state (R454). -/
theorem startCycle_dmaClocks {s : State} (h : Suspended s) (k : Nat) : startCycle (iterate dmaClock k s) = startCycle s := by
  induction k generalizing s with
  | zero => rfl
  | succ k ih => rw [iterate_succ, ih h.dmaClock, startCycle_dmaClock h]

/-! ### The whole DMA -/

/-- The controller takes the bus (R442). -/
def takeBus (s : State) : State := { s with dma := { s.dma with active := true, maskI := s.cpu.p.i } }

theorem cycleEdge_of_pending {s : State} (hactive : s.dma.active = false) (hpending : s.dma.pending = true) :
    cycleEdge s = takeBus s := by
  rw [cycleEdge, hactive, hpending]
  rfl

theorem HdmaOff.takeBus {s : State} (h : HdmaOff s) : HdmaOff (takeBus s) := ⟨h.pending, h.enabled⟩

theorem mem_channelNumbers (n : Fin 8) : n ∈ channelNumbers := by
  revert n
  decide

/-- A pending DMA serves every channel, and its end leaves nothing pending (R448). -/
theorem dmaRun_served {s : State} (hoff : HdmaOff s) (hmmio : SystemMmio s) :
    (dmaRun s).dma.pending = false ∧ HdmaOff (dmaRun s) ∧
      ∀ n : Fin 8, ((dmaRun s).ch n).special = (s.ch n).served.special := by
  obtain ⟨hmaps, hpending, hbegun, hchannels⟩ := dmaBegin_moved hoff
  have hruns := dmaRunChannels_moved (l := channelNumbers) (by decide) hbegun fun r hr => hmmio r (hmaps ▸ hr)
  have hends : dmaRun s = dmaEnd (channelNumbers.foldl dmaRunChannel (dmaBegin s)) := rfl
  rw [hends]
  generalize channelNumbers.foldl dmaRunChannel (dmaBegin s) = t at hruns ⊢
  obtain ⟨hoffPending, hoffEnabled⟩ := hruns.off hbegun
  refine ⟨hruns.pending.trans hpending, ⟨hoffPending, hoffEnabled⟩, fun n => (hruns.channels n).trans ?_⟩
  rw [if_pos (mem_channelNumbers n), served_special (hchannels n)]

theorem served_dmaEnabled (c : Channel) : c.served.dmaEnabled = false := by
  unfold Channel.served
  split
  next => rfl
  next h => simpa using h

/-- The channel's registers after its turn, as the statement puts them. -/
theorem served_registers (c : Channel) :
    (c.dmaEnabled = false → c.served.registers = c.registers) ∧
      (c.dmaEnabled = true → c.served.registers = { c with das := 0, a1t := a1tAfter c (count c) }.registers) := by
  refine ⟨fun h => ?_, fun h => ?_⟩
  · rw [Channel.served, h, if_neg (by decide)]
  · rw [Channel.served, if_pos h]
    rfl

/-- Settles O56: the activation in one piece (`dmaRun_served`), and that a step of the controller alone leaves the same to be
done (`startCycle_dmaClock`). -/
theorem generalDmaCompletes : Obligations.GeneralDmaCompletes := by
  unfold Obligations.GeneralDmaCompletes
  intro s hpending hhdma hdisabled hmmio hactive hrunning hclocks
  have hoff : HdmaOff (takeBus s) := HdmaOff.takeBus ⟨hhdma, hdisabled⟩
  have hsuspended : Suspended (takeBus s) :=
    ⟨hmmio, hoff, Progress.inRange_of_stopped (a := true) ⟨rfl, hrunning, hclocks⟩⟩
  have hprogress := startCycle_progress hsuspended.range
  have hcpu := startCycle_cpu (takeBus s)
  have hclocked := startCycle_dmaClocks hsuspended
  obtain ⟨hdone, hend, hserved⟩ := dmaRun_served hoff hmmio
  rw [cycleEdge_of_pending hactive hpending]
  dsimp only
  rw [startCycle_of_pending hoff rfl hrunning hpending] at hprogress hcpu hclocked ⊢
  generalize dmaRun (takeBus s) = t at *
  refine ⟨hcpu, ⟨rfl, hdone, hend.pending, hend.enabled⟩, hprogress.running, hprogress.clocks, fun n => ?_, hclocked⟩
  obtain ⟨hidle, hmoved⟩ := served_registers (s.ch n)
  have hregisters := Channel.registers_of_special (hserved n)
  exact ⟨(Channel.dmaEnabled_of_special (hserved n)).trans (served_dmaEnabled _), fun h => hregisters.trans (hidle h),
    fun h => hregisters.trans (hmoved h)⟩

end Sys2Proof.Machine
end

section
/-! PROOFS. A general DMA from cartridge storage to WMDATA copies (45_dma_hdma.md R448, R449, R451, R453;
46_cpu_io.md R500). -/

namespace Sys2Proof.Machine
open Sys2Proof.Claims

/-! ### Bytes written one after another through the port (R500) -/

/-- w' is w with m bytes written from index p on, modulo 2^17. -/
structure Filled (m : Nat) (f : Nat → Byte) (p : Nat) (w w' : List Host.Cell) : Prop where
  inside : ∀ i < m, Memory.read w' ((p + i) % 2 ^ 17) = f i
  outside : ∀ j < 2 ^ 17, (∀ i < m, j ≠ (p + i) % 2 ^ 17) → Memory.read w' j = Memory.read w j

/-- The first byte written, and the others behind it, which do not come round to it. -/
theorem Filled.cons {m : Nat} {f : Nat → Byte} {p : BitVec 17} {w w' : List Host.Cell} (hwf : Memory.wf w = true)
    (hm : m + 1 ≤ 2 ^ 17) (h : Filled m (fun i => f (i + 1)) (p + 1).toNat (Memory.write w p.toNat (f 0)) w') :
    Filled (m + 1) f p.toNat w w' := by
  have hp := p.isLt
  have hnext : ∀ i, ((p + 1).toNat + i) % 2 ^ 17 = (p.toNat + (i + 1)) % 2 ^ 17 := fun i => by
    have hadd : (p + 1).toNat = (p.toNat + 1) % 2 ^ 17 := BitVec.toNat_add p 1
    rw [hadd]
    omega
  obtain ⟨hinside, houtside⟩ := h
  simp only [hnext] at hinside houtside
  constructor
  · intro i hi
    cases i with
    | zero =>
      rw [Nat.add_zero, Nat.mod_eq_of_lt hp, houtside _ hp fun i hi => by omega, Memory.read_write hwf, if_pos rfl]
    | succ i => exact hinside i (by omega)
  · intro j hj hne
    have hfirst := hne 0 (by omega)
    rw [Nat.add_zero, Nat.mod_eq_of_lt hp] at hfirst
    rw [houtside j hj fun i hi => hne (i + 1) (by omega), Memory.read_write hwf, if_neg hfirst]

/-! ### One byte (R451) -/

/-- Byte i of the source of a channel that counts its address up. -/
def sourceAddr (c : Channel) (i : Nat) : Addr := long c.a1b (c.a1t + BitVec.ofNat 16 i)

/-- A byte of a cartridge device the controller reaches. -/
structure CartByte (s : State) (a : Addr) (v : Byte) : Prop where
  valid : dmaAddrValid a = true
  device : ∃ k j, s.bus.resolve a = .dev k j
  value : s.bus.byteAt a = some v

/-- Channel n is about to copy the m bytes f to WMDATA, upward in mode 0. -/
structure CopiesToPort (n : Fin 8) (m : Nat) (f : Nat → Byte) (s : State) : Prop where
  port : CpuReg s (bBus 0x80) 0x2180
  dmap : (s.ch n).dmap = 0x00
  bbad : (s.ch n).bbad = 0x80
  source : ∀ i < m, CartByte s (sourceAddr (s.ch n) i) (f i)
  memory : s.bus.memoryOk = true

theorem CartByte.readable {s : State} {a : Addr} {v : Byte} (h : CartByte s a v) : Readable s a := by
  refine ⟨h.valid, ?_⟩
  rw [Storage, h.value]
  rfl

theorem CartByte.busByte_eq {s : State} {a : Addr} {v : Byte} (h : CartByte s a v) : busByte s.bus 0 a = v := by
  rw [busByte, h.value]
  rfl

theorem CartByte.wramConflict_eq {s : State} {a : Addr} {v : Byte} (h : CartByte s a v) (b : Byte) :
    wramConflict b a s = false := by
  obtain ⟨k, j, hdev⟩ := h.device
  simp [wramConflict, hdev]

/-- The bus after a byte written through the port. -/
def portWritten (b : Bus) (p : BitVec 17) (v : Byte) : Bus := { b with wram := Memory.write b.wram p.toNat v, mdr := v }

/-- A byte from a cartridge device to WMDATA. -/
theorem transfer_port {s : State} {a : Addr} {v : Byte} (hport : CpuReg s (bBus 0x80) 0x2180) (h : CartByte s a v) :
    (transfer false 0x80 a s).bus = portWritten s.bus s.io.wmadd v ∧
      (transfer false 0x80 a s).io = { s.io with wmadd := s.io.wmadd + 1 } := by
  obtain ⟨t, ht, hmoved⟩ := transfer_toB_of_readable (h.wramConflict_eq 0x80) h.readable
  rw [h.busByte_eq] at ht hmoved
  have hwrite : busWrite (bBus 0x80) v t = setMdr v (writeWmdata v t) :=
    busWrite_cpuReg (cpuReg_of_bus hport (by rw [ht.bus]; rfl) (by rw [ht.bus]; rfl)) v
  rw [hmoved, hwrite]
  refine ⟨?bus, ?io⟩
  case bus =>
    show { t.bus with wram := Memory.write t.bus.wram t.io.wmadd.toNat v, mdr := v } = portWritten s.bus s.io.wmadd v
    rw [ht.bus, ht.io]
    rfl
  case io =>
    show { t.io with wmadd := t.io.wmadd + 1 } = { s.io with wmadd := s.io.wmadd + 1 }
    rw [ht.io]
    rfl

section
variable {n : Fin 8} {m : Nat} {f : Nat → Byte} {s : State}

theorem CopiesToPort.contained (h : CopiesToPort n m f s) : Contained (s.ch n).toA s := by
  refine .inr ?_
  rw [Channel.toA, h.dmap]
  rfl

theorem CopiesToPort.bAddr_eq (h : CopiesToPort n m f s) (index : Nat) : (s.ch n).bAddr index = 0x80 := by
  rw [Channel.bAddr, Channel.mode, h.dmap, h.bbad]
  rfl

theorem CopiesToPort.stepA1t_eq (h : CopiesToPort n m f s) : (s.ch n).byteDone.a1t = (s.ch n).a1t + 1 := by
  have hnext : (s.ch n).byteDone.a1t = (s.ch n).nextA1t := rfl
  rw [hnext, Channel.nextA1t, Channel.fixed, Channel.decrement, h.dmap]
  rfl

/-- Byte 0 of the source goes through the port. -/
theorem CopiesToPort.dmaByte_bus (h : CopiesToPort n (m + 1) f s) :
    (dmaByte n s).bus = portWritten s.bus s.io.wmadd (f 0) ∧
      (dmaByte n s).io = { s.io with wmadd := s.io.wmadd + 1 } := by
  have haddr : long (s.ch n).a1b (s.ch n).a1t = sourceAddr (s.ch n) 0 := by rw [sourceAddr, BitVec.add_zero]
  have htoB : (s.ch n).toA = false := by
    rw [Channel.toA, h.dmap]
    rfl
  obtain ⟨hvalid, hdevice, hvalue⟩ := h.source 0 (Nat.succ_pos m)
  rw [dmaByte_eq_transfer, htoB, h.bAddr_eq, haddr]
  exact transfer_port (s := byteBegun n s) h.port ⟨hvalid, hdevice, hvalue⟩

/-- And the others are still to come. -/
theorem CopiesToPort.dmaByte_rest (h : CopiesToPort n (m + 1) f s) :
    CopiesToPort n m (fun i => f (i + 1)) (dmaByte n s) := by
  obtain ⟨hbus, -⟩ := h.dmaByte_bus
  obtain ⟨x, y, hself⟩ := Channel.special_eq_iff.1 (dmaByte_self h.contained)
  have haddr : ∀ i, sourceAddr ((dmaByte n s).ch n) i = sourceAddr (s.ch n) (i + 1) := fun i => by
    have ha1b : ((dmaByte n s).ch n).a1b = (s.ch n).a1b := by rw [hself]; rfl
    have ha1t : ((dmaByte n s).ch n).a1t = (s.ch n).a1t + 1 := by rw [hself]; exact h.stepA1t_eq
    rw [sourceAddr, sourceAddr, ha1b, ha1t, ofNat_succ, BitVec.add_assoc]
  refine ⟨cpuReg_of_bus h.port (by rw [hbus]; rfl) (by rw [hbus]; rfl), ?_, ?_, fun i hi => ?_, ?_⟩
  · rw [hself]
    exact h.dmap
  · rw [hself]
    exact h.bbad
  · obtain ⟨hvalid, ⟨k, j, hdevice⟩, hvalue⟩ := h.source (i + 1) (Nat.succ_lt_succ hi)
    rw [haddr]
    refine ⟨hvalid, ⟨k, j, ?_⟩, ?_⟩
    · rw [hbus]
      exact hdevice
    · rw [← hvalue, Bus.byteAt, Bus.byteAt, hbus]
      have hresolve : (portWritten s.bus s.io.wmadd (f 0)).resolve (sourceAddr (s.ch n) (i + 1)) = .dev k j := hdevice
      rw [hresolve, hdevice]
      rfl
  · exact memoryOk_stable.dmaByte n s h.memory

/-- What the copy of m bytes makes of work RAM and of the port; no device changes. -/
structure CopiedToPort (m : Nat) (f : Nat → Byte) (s t : State) : Prop where
  wmadd : t.io.wmadd = s.io.wmadd + BitVec.ofNat 17 m
  wram : Filled m f s.io.wmadd.toNat s.bus.wram t.bus.wram
  devices : t.bus.devices = s.bus.devices

/-- m bytes of the channel, one after another, are copied (R448, R500). -/
theorem CopiesToPort.copied (h : CopiesToPort n m f s) (hm : m ≤ 2 ^ 17) :
    CopiedToPort m f s (iterate (dmaByte n) m s) := by
  induction m generalizing s f with
  | zero => exact ⟨(BitVec.add_zero _).symm, ⟨fun i hi => absurd hi (Nat.not_lt_zero i), fun _ _ _ => rfl⟩, rfl⟩
  | succ m ih =>
    obtain ⟨hbus, hio⟩ := h.dmaByte_bus
    obtain ⟨hwmadd, hwram, hdevices⟩ := ih h.dmaByte_rest (by omega)
    rw [iterate_succ]
    generalize iterate (dmaByte n) m (dmaByte n s) = t at *
    rw [hbus, hio] at hwram
    rw [hio] at hwmadd
    refine ⟨?_, hwram.cons (Bus.wram_wf h.memory) hm, ?_⟩
    · rw [hwmadd, ofNat_succ, BitVec.add_assoc]
    · rw [hdevices, hbus]
      rfl

end

/-! ### The whole DMA -/

/-- A DMA of one channel is that channel's turn (R448). -/
theorem dmaRun_of_one {s : State} {n : Fin 8} (hoff : HdmaOff s)
    (hone : ∀ k : Fin 8, (s.ch k).dmaEnabled = decide (k = n)) (hcontained : Contained (s.ch n).toA s) :
    dmaRun s = dmaEnd (dmaRunChannel (dmaBegin s) n) := by
  obtain ⟨hmaps, hpending, hbegun, hchannels⟩ := dmaBegin_moved hoff
  have henabled : ∀ k : Fin 8, ((dmaBegin s).ch k).dmaEnabled = decide (k = n) := fun k =>
    (Channel.dmaEnabled_of_special (hchannels k)).trans (hone k)
  have hrun : Contained ((dmaBegin s).ch n).toA (dmaBegin s) :=
    hcontained.imp (fun hmmio r hr => hmmio r (hmaps ▸ hr)) (toA_of_special (hchannels n)).trans
  have hturn := dmaRunChannel_moved hbegun hrun
  obtain ⟨pre, rest, hlist⟩ := List.append_of_mem (mem_channelNumbers n)
  have hnodup : channelNumbers.Nodup := by decide
  rw [hlist] at hnodup
  obtain ⟨-, hnodupRest, hdisjoint⟩ := List.nodup_append.1 hnodup
  obtain ⟨hnotMem, -⟩ := List.nodup_cons.1 hnodupRest
  have hpre : ∀ k ∈ pre, ((dmaBegin s).ch k).dmaEnabled = false := fun k hk => by
    rw [henabled]
    exact decide_eq_false (hdisjoint k hk n (List.mem_cons_self ..))
  have hrest : ∀ k ∈ rest, ((dmaRunChannel (dmaBegin s) n).ch k).dmaEnabled = false := fun k hk => by
    have hne : k ≠ n := fun he => hnotMem (he ▸ hk)
    have hother := hturn.channels k
    rw [Function.update_of_ne hne] at hother
    rw [Channel.dmaEnabled_of_special hother, henabled]
    exact decide_eq_false hne
  rw [dmaRun, hlist, List.foldl_append, dmaRunChannels_of_disabled hpre, List.foldl_cons,
    dmaRunChannels_of_disabled hrest]

theorem CopiesToPort.congr {n : Fin 8} {m : Nat} {f : Nat → Byte} {s t : State} (h : CopiesToPort n m f s)
    (hbus : t.bus = s.bus) (hself : (t.ch n).special = (s.ch n).special) : CopiesToPort n m f t := by
  obtain ⟨hport, hdmap, hbbad, hsource, hmemory⟩ := h
  obtain ⟨x, y, hch⟩ := Channel.special_eq_iff.1 hself
  refine ⟨cpuReg_of_bus hport (by rw [hbus]) (by rw [hbus]), by rw [hch]; exact hdmap, by rw [hch]; exact hbbad,
    fun i hi => ?_, by rw [hbus]; exact hmemory⟩
  obtain ⟨hvalid, hdevice, hvalue⟩ := hsource i hi
  rw [hch]
  exact ⟨hvalid, by rw [hbus]; exact hdevice, by rw [hbus]; exact hvalue⟩

theorem CopiedToPort.congr {m : Nat} {f : Nat → Byte} {s s' t t' : State} (h : CopiedToPort m f s t)
    (hbus : s.bus = s'.bus) (hio : s.io = s'.io) (hbus' : t'.bus = t.bus) (hio' : t'.io = t.io) :
    CopiedToPort m f s' t' := by
  obtain ⟨hwmadd, hwram, hdevices⟩ := h
  rw [← hio', hio] at hwmadd
  rw [← hbus', hbus, hio] at hwram
  rw [← hbus', hbus] at hdevices
  exact ⟨hwmadd, hwram, hdevices⟩

/-- A channel that copies to the port, from its start to its end. -/
theorem dmaRunChannel_copied {n : Fin 8} {f : Nat → Byte} {s : State} (hoff : HdmaOff s)
    (henabled : (s.ch n).dmaEnabled = true) (h : CopiesToPort n (count (s.ch n)) f s) :
    CopiedToPort (count (s.ch n)) f s (dmaRunChannel s n) := by
  have hwaited := hoff.dmaOverhead s.params.dmaChannelOverhead
  have hstart := dmaStartChannel_moved hoff n
  have hself := hstart.channels n
  have hbus : (dmaStartChannel n s).bus = s.bus := hwaited.bus
  have hio : (dmaStartChannel n s).io = s.io := hwaited.io
  have hle := count_le (s.ch n)
  rw [dmaRunChannel_of_enabled henabled]
  generalize dmaStartChannel n s = t at hstart hself hbus hio ⊢
  have ht := h.congr hbus hself
  rw [dmaChannelRest_eq_iterate (hstart.off hoff) ht.contained ((Channel.dmaEnabled_of_special hself).trans henabled),
    count_of_special hself]
  exact (ht.copied (by omega)).congr hbus hio rfl rfl

/-- A DMA of one channel that copies to the port. -/
theorem dmaRun_copied {n : Fin 8} {f : Nat → Byte} {s : State} (hoff : HdmaOff s)
    (hone : ∀ k : Fin 8, (s.ch k).dmaEnabled = decide (k = n)) (h : CopiesToPort n (count (s.ch n)) f s) :
    CopiedToPort (count (s.ch n)) f s (dmaRun s) := by
  have hstarted : HdmaOff { s with dma := { s.dma with pending := false, running := true } } :=
    ⟨hoff.pending, hoff.enabled⟩
  have hwaited := hstarted.dmaOverhead s.params.dmaSyncOverhead
  obtain ⟨-, -, hbegun, hchannels⟩ := dmaBegin_moved hoff
  have hself := hchannels n
  rw [dmaRun_of_one hoff hone h.contained, ← count_of_special hself]
  rw [← count_of_special hself] at h
  have henabled := (Channel.dmaEnabled_of_special hself).trans ((hone n).trans (decide_eq_true rfl))
  exact (dmaRunChannel_copied hbegun henabled (h.congr hwaited.bus hself)).congr hwaited.bus hwaited.io rfl rfl

/-- Settles O57: the channel's bytes go through the port one after another (`CopiesToPort.copied`). -/
theorem dmaCopiesToWorkRam : Obligations.DmaCopiesToWorkRam := by
  unfold Obligations.DmaCopiesToWorkRam
  intro s n hpending hhdma hactive hrunning hdisabled hone hmemory hport hdmap hbbad hsource
  have hbytes : ∀ i < count (s.ch n),
      CartByte (takeBus s) (sourceAddr (s.ch n) i) (busByte s.bus 0 (sourceAddr (s.ch n) i)) :=
    fun i hi => by
      obtain ⟨hvalid, hdevice, hstored⟩ := hsource i hi
      obtain ⟨v, hv⟩ := Option.isSome_iff_exists.1 hstored
      refine ⟨hvalid, hdevice, ?_⟩
      rw [busByte, sourceAddr, hv]
      exact hv
  have hcopies : CopiesToPort n (count (s.ch n)) (fun i => busByte s.bus 0 (sourceAddr (s.ch n) i)) (takeBus s) :=
    ⟨hport, hdmap, hbbad, hbytes, hmemory⟩
  have hoff : HdmaOff (takeBus s) := HdmaOff.takeBus ⟨hhdma, hdisabled⟩
  obtain ⟨hwmadd, hwram, hdevices⟩ := dmaRun_copied hoff hone hcopies
  rw [cycleEdge_of_pending hactive hpending]
  dsimp only
  rw [startCycle_of_pending hoff rfl hrunning hpending]
  generalize dmaRun (takeBus s) = t at *
  refine ⟨hwmadd, fun i hi => ?_, hwram.outside, hdevices⟩
  exact (congrArg some (hwram.inside i hi)).trans (hbytes i hi).value.symm

end Sys2Proof.Machine
end

section
/-! PROOFS. The work-RAM port and the interrupt registers (46_cpu_io.md R500, R501, R503, R506, R507; 60_exceptions.md R548,
R552). -/

namespace Sys2Proof.Machine
open Sys2Proof.Claims

/-! ### WMADD (R500, R501) -/

theorem ofBool_getLsbD_zero_toNat (v : Byte) : (BitVec.ofBool (v.getLsbD 0)).toNat = v.toNat % 2 := by
  rw [byte_getLsbD_eq_bit, bit, Nat.pow_zero, Nat.div_one, BitVec.toNat_ofBool]
  rcases Nat.mod_two_eq_zero_or_one v.toNat with h | h <;> simp [h]

/-- A step of WMADD wraps modulo 2^17 (R500). -/
theorem wmadd_succ (w : BitVec 17) : w + 1 = BitVec.ofNat 17 ((w.toNat + 1) % 2 ^ 17) :=
  BitVec.eq_of_toNat_eq (by rw [BitVec.toNat_add, BitVec.toNat_ofNat, Nat.mod_mod]; rfl)

theorem wmaddLow_eq (w : BitVec 17) (v : Byte) : wmaddLow w v = BitVec.ofNat 17 (w.toNat / 256 * 256 + v.toNat) := by
  apply BitVec.eq_of_toNat_eq
  rw [wmaddLow, append_toNat, BitVec.extractLsb'_toNat, Nat.shiftRight_eq_div_pow, BitVec.toNat_ofNat]
  omega

theorem wmaddMid_eq (w : BitVec 17) (v : Byte) :
    wmaddMid w v = BitVec.ofNat 17 (w.toNat / 65536 * 65536 + v.toNat * 256 + w.toNat % 256) := by
  apply BitVec.eq_of_toNat_eq
  rw [wmaddMid, append_toNat, append_toNat, BitVec.extractLsb'_toNat, Nat.shiftRight_eq_div_pow, BitVec.toNat_setWidth,
    BitVec.toNat_ofNat]
  omega

theorem wmaddHigh_eq (w : BitVec 17) (v : Byte) :
    wmaddHigh w v = BitVec.ofNat 17 (v.toNat % 2 * 65536 + w.toNat % 65536) := by
  apply BitVec.eq_of_toNat_eq
  rw [wmaddHigh, append_toNat, ofBool_getLsbD_zero_toNat, BitVec.toNat_setWidth, BitVec.toNat_ofNat]
  omega

/-- Settles O46: each access is that of the register (`busRead_cpuReg`, `busWrite_cpuReg`); the parts of WMADD are put
together by `wmaddLow_eq`, `wmaddMid_eq` and `wmaddHigh_eq`. -/
theorem workRamPort : Obligations.WorkRamPort := by
  unfold Obligations.WorkRamPort
  intro s a v
  dsimp only
  rw [← wmadd_succ, ← wmaddLow_eq, ← wmaddMid_eq, ← wmaddHigh_eq]
  refine ⟨fun h => ⟨busRead_cpuReg h, busWrite_cpuReg h v⟩, fun h => busWrite_cpuReg h v, fun h => busWrite_cpuReg h v,
    fun h => busWrite_cpuReg h v, ?unreadable⟩
  rintro (h | h | h) <;> exact busRead_cpuReg h

/-! ### NMITIMEN, RDNMI and TIMEUP (R503, R506, R507) -/

/-- R503: a V-only enable re-arms a set flag, and disabling both acknowledges. -/
theorem IntSource.enableIrq_eq (q : IntSource) (virq hirq : Bool) :
    q.enableIrq virq hirq = { q with
      valid := virq || hirq
      flag := q.flag && (virq || hirq)
      transition := (virq || hirq) && (q.transition || (virq && !hirq && q.flag)) } := by
  cases hirq with
  | true => simp [IntSource.enableIrq, Intr.irqValid]
  | false =>
    cases virq with
    | false => simp [IntSource.enableIrq, Intr.irqValid]
    | true => cases hflag : q.flag <;> simp [IntSource.enableIrq, Intr.irqValid, hflag]

theorem readRdnmi_toNat (s : State) :
    (readRdnmi s).1.toNat = 128 * s.intr.nmi.flag.toNat + s.bus.mdr.toNat / 16 % 8 * 16 + 2 := by
  have hversion : Config.cpuVersion.toNat = 2 := rfl
  simp only [readRdnmi, append_toNat, BitVec.toNat_ofBool, BitVec.extractLsb'_toNat, Nat.shiftRight_eq_div_pow, hversion]
  omega

theorem readTimeup_toNat (s : State) :
    (readTimeup s).1.toNat = 128 * s.intr.irq.flag.toNat + s.bus.mdr.toNat % 128 := by
  simp only [readTimeup, append_toNat, BitVec.toNat_ofBool, BitVec.extractLsb'_toNat, Nat.shiftRight_zero]
  omega

/-- Settles O47: each access is that of the register, as `IntSource.enableIrq_eq`, `readRdnmi_toNat` and `readTimeup_toNat`
say. -/
theorem interruptRegisters : Obligations.InterruptRegisters := by
  unfold Obligations.InterruptRegisters
  intro s a v
  refine ⟨fun h => ?nmitimen, fun h => ?rdnmi, fun h => ?timeup⟩
  all_goals rw [busWrite_cpuReg h]
  case nmitimen =>
    simp only [← byte_getLsbD_eq_bit, ← IntSource.enableIrq_eq]
    rfl
  case rdnmi =>
    rw [busRead_cpuReg h]
    exact ⟨readRdnmi_toNat s, rfl, rfl⟩
  case timeup =>
    rw [busRead_cpuReg h]
    exact ⟨readTimeup_toNat s, rfl, rfl⟩

end Sys2Proof.Machine
end

section
/-! PROOFS. The multiply/divide unit (46_cpu_io.md R490-R498). -/

namespace Sys2Proof.Machine
open Sys2Proof.Claims

/-! ### One tick (R498) -/

theorem Alu.busy_eq_false_iff {u : Alu} : u.busy = false ↔ u.mpyctr = 0 ∧ u.divctr = 0 := by simp [Alu.busy]

theorem Alu.busy_eq_true_iff {u : Alu} : u.busy = true ↔ u.mpyctr ≠ 0 ∨ u.divctr ≠ 0 := by simp [Alu.busy]

theorem Alu.tickMpy_of_zero {u : Alu} (h : u.mpyctr = 0) : u.tickMpy = u := by rw [Alu.tickMpy, if_pos h]

theorem Alu.tickDiv_of_zero {u : Alu} (h : u.divctr = 0) : u.tickDiv = u := by rw [Alu.tickDiv, if_pos h]

theorem Alu.tick_of_idle {u : Alu} (hmpy : u.mpyctr = 0) (hdiv : u.divctr = 0) : u.tick = u := by
  rw [Alu.tick, Alu.tickMpy_of_zero hmpy, Alu.tickDiv_of_zero hdiv]

theorem ticks_of_tick_eq {u : Alu} (h : u.tick = u) (k : Nat) : ticks k u = u := by
  induction k with
  | zero => rfl
  | succ k ih => rw [ticks, h, ih]

/-- A countdown from c, of which f gives the states, ends in r, and the unit stays there. -/
theorem ticks_countdown {f : Nat → Alu} {r : Alu} (hstep : ∀ c, c ≠ 0 → (f (c + 1)).tick = f c) (hlast : (f 1).tick = r)
    (hrest : r.tick = r) {c : Nat} (hc : c ≠ 0) (k : Nat) : ticks k (f c) = if k < c then f (c - k) else r := by
  induction k generalizing c with
  | zero => rw [if_pos (Nat.pos_of_ne_zero hc)]; rfl
  | succ k ih =>
    obtain ⟨c, rfl⟩ := Nat.exists_eq_add_one_of_ne_zero hc
    rw [ticks]
    by_cases hone : c = 0
    · rw [hone, hlast, ticks_of_tick_eq hrest, if_neg (by omega)]
    · rw [hstep c hone, ih hone, Nat.add_sub_add_right]
      simp only [Nat.add_lt_add_iff_right]

/-! ### A multiply (R492, R493) -/

/-- The unit with c ticks to go of a multiply by v. -/
def Alu.multiplying (u : Alu) (v : Byte) (c : Nat) : Alu :=
  { u with wrmpyb := v, mulA := u.wrmpya, mulB := v, mpyctr := c }

/-- The product of two bytes fits the register. -/
theorem Alu.postProduct_rdmpy_toNat (u : Alu) : u.postProduct.rdmpy.toNat = u.mulA.toNat * u.mulB.toNat := by
  have hlt : u.mulA.toNat * u.mulB.toNat < 256 * 256 := Nat.mul_lt_mul'' u.mulA.isLt u.mulB.isLt
  rw [Alu.postProduct, BitVec.toNat_mul, zext_toNat, zext_toNat, Nat.mod_eq_of_lt hlt]

theorem Alu.multiplying_tick {u : Alu} (hdiv : u.divctr = 0) (v : Byte) (c : Nat) :
    (u.multiplying v (c + 1)).tick = if c = 0 then (u.multiplying v c).postProduct else u.multiplying v c := by
  have hidle : (u.multiplying v (c + 1)).tickMpy.divctr = 0 := (Alu.tickMpy_divctr _).trans hdiv
  have hbusy : (u.multiplying v (c + 1)).mpyctr ≠ 0 := Nat.succ_ne_zero c
  rw [Alu.tick, Alu.tickDiv_of_zero hidle, Alu.tickMpy, if_neg hbusy]
  rfl

theorem ticks_multiplying {u : Alu} (hdiv : u.divctr = 0) (v : Byte) {c : Nat} (hc : c ≠ 0) (k : Nat) :
    ticks k (u.multiplying v c) = if k < c then u.multiplying v (c - k) else (u.multiplying v 0).postProduct :=
  ticks_countdown (fun c hne => (Alu.multiplying_tick hdiv v c).trans (if_neg hne)) (Alu.multiplying_tick hdiv v 0)
    (Alu.tick_of_idle rfl hdiv) hc k

section
variable {u : Alu} (hmpy : u.mpyctr = 0) (hdiv : u.divctr = 0) (v : Byte)
include hmpy hdiv

theorem Alu.writeMpyB_of_idle : u.writeMpyB v = u.multiplying v 8 := by
  rw [Alu.writeMpyB, if_neg (by rw [Alu.busy_eq_false_iff.2 ⟨hmpy, hdiv⟩]; decide)]
  rfl

theorem ticks_writeMpyB_of_lt {k : Nat} (hk : k < 8) :
    (ticks k (u.writeMpyB v)).rdmpy = u.rdmpy ∧ (ticks k (u.writeMpyB v)).rddiv = u.rddiv := by
  rw [Alu.writeMpyB_of_idle hmpy hdiv, ticks_multiplying hdiv v (by decide), if_pos hk]
  exact ⟨rfl, rfl⟩

theorem ticks_writeMpyB_of_ge {k : Nat} (hk : 8 ≤ k) :
    (ticks k (u.writeMpyB v)).rdmpy.toNat = u.wrmpya.toNat * v.toNat ∧ (ticks k (u.writeMpyB v)).rddiv.toNat = v.toNat ∧
      (ticks k (u.writeMpyB v)).mpyctr = 0 ∧ (ticks k (u.writeMpyB v)).divctr = 0 := by
  rw [Alu.writeMpyB_of_idle hmpy hdiv, ticks_multiplying hdiv v (by decide), if_neg (by omega)]
  exact ⟨Alu.postProduct_rdmpy_toNat _, zext_toNat v, rfl, hdiv⟩

end

/-! ### A divide (R495, R496) -/

/-- The unit with c ticks to go of a divide by v. -/
def Alu.dividing (u : Alu) (v : Byte) (c : Nat) : Alu :=
  { u with wrdivb := v, divA := u.wrdiv, divB := v, divctr := c }

theorem Alu.postQuotient_toNat (u : Alu) :
    u.postQuotient.rddiv.toNat = (if u.divB.toNat = 0 then 0xFFFF else u.divA.toNat / u.divB.toNat) ∧
      u.postQuotient.rdmpy.toNat = (if u.divB.toNat = 0 then u.divA.toNat else u.divA.toNat % u.divB.toNat) := by
  have hzero : u.divB = 0 ↔ u.divB.toNat = 0 := BitVec.toNat_inj.symm
  simp only [Alu.postQuotient, hzero]
  split
  · exact ⟨rfl, rfl⟩
  · exact ⟨by rw [BitVec.toNat_udiv, zext_toNat], by rw [BitVec.toNat_umod, zext_toNat]⟩

theorem Alu.dividing_tick {u : Alu} (hmpy : u.mpyctr = 0) (v : Byte) (c : Nat) :
    (u.dividing v (c + 1)).tick = if c = 0 then (u.dividing v c).postQuotient else u.dividing v c := by
  have hidle : (u.dividing v (c + 1)).mpyctr = 0 := hmpy
  have hbusy : (u.dividing v (c + 1)).divctr ≠ 0 := Nat.succ_ne_zero c
  rw [Alu.tick, Alu.tickMpy_of_zero hidle, Alu.tickDiv, if_neg hbusy]
  rfl

theorem ticks_dividing {u : Alu} (hmpy : u.mpyctr = 0) (v : Byte) {c : Nat} (hc : c ≠ 0) (k : Nat) :
    ticks k (u.dividing v c) = if k < c then u.dividing v (c - k) else (u.dividing v 0).postQuotient :=
  ticks_countdown (fun c hne => (Alu.dividing_tick hmpy v c).trans (if_neg hne)) (Alu.dividing_tick hmpy v 0)
    (Alu.tick_of_idle ((Alu.postQuotient_mpyctr _).trans hmpy) (Alu.postQuotient_divctr _)) hc k

section
variable {u : Alu} (hmpy : u.mpyctr = 0) (hdiv : u.divctr = 0) (v : Byte)
include hmpy hdiv

theorem Alu.writeDivB_of_idle : u.writeDivB v = u.dividing v 16 := by
  rw [Alu.writeDivB, if_neg (by rw [Alu.busy_eq_false_iff.2 ⟨hmpy, hdiv⟩]; decide)]
  rfl

theorem ticks_writeDivB_of_lt {k : Nat} (hk : k < 16) :
    (ticks k (u.writeDivB v)).rdmpy = u.rdmpy ∧ (ticks k (u.writeDivB v)).rddiv = u.rddiv := by
  rw [Alu.writeDivB_of_idle hmpy hdiv, ticks_dividing hmpy v (by decide), if_pos hk]
  exact ⟨rfl, rfl⟩

theorem ticks_writeDivB_of_ge {k : Nat} (hk : 16 ≤ k) :
    (ticks k (u.writeDivB v)).mpyctr = 0 ∧ (ticks k (u.writeDivB v)).divctr = 0 ∧
      (ticks k (u.writeDivB v)).rddiv.toNat = (if v.toNat = 0 then 0xFFFF else u.wrdiv.toNat / v.toNat) ∧
      (ticks k (u.writeDivB v)).rdmpy.toNat = (if v.toNat = 0 then u.wrdiv.toNat else u.wrdiv.toNat % v.toNat) := by
  rw [Alu.writeDivB_of_idle hmpy hdiv, ticks_dividing hmpy v (by decide), if_neg (by omega)]
  exact ⟨(Alu.postQuotient_mpyctr _).trans hmpy, Alu.postQuotient_divctr _, Alu.postQuotient_toNat _⟩

end

/-! ### The unit through the CPU's cycles -/

theorem endCycle_alu {s : State} (h : Quiet s) (busy : Bool) :
    (endCycle busy s).alu = if busy then s.alu.tick else s.alu := by
  rw [endCycle_quiet h]
  cases busy <;> rfl

/-- An internal cycle is a tick: of an idle unit it leaves everything. -/
theorem idle_alu {s : State} (h : Quiet s) : (idle s).alu = s.alu.tick := by
  rw [idle_quiet h, endCycle_alu (quiet_spend h _), spend_alu]
  cases hbusy : s.alu.busy with
  | true => rfl
  | false =>
    obtain ⟨hmpy, hdiv⟩ := Alu.busy_eq_false_iff.1 hbusy
    exact (Alu.tick_of_idle hmpy hdiv).symm

theorem idles_alu {s : State} (h : Quiet s) (k : Nat) : (idles k s).alu = ticks k s.alu := by
  induction k generalizing s with
  | zero => rfl
  | succ k ih => exact (ih (quiet_idle h)).trans (congrArg (ticks k) (idle_alu h))

/-- The write cycle that starts the unit is no tick of it: the unit was idle as the cycle began. -/
theorem write8_idles_alu {s : State} (h : Quiet s) (hbusy : s.alu.busy = false) {a : Addr} {v : Byte}
    (hdma : (busWrite a v s).dma = s.dma) (k : Nat) : (idles k (write8 a v s)).alu = ticks k (busWrite a v s).alu := by
  have hspent : Quiet (spend (speed s.io.memsel a) (busWrite a v s)) := quiet_spend (quiet_of_dma h hdma) _
  rw [write8_quiet h, hbusy, idles_alu (quiet_endCycle hspent _), endCycle_alu hspent, if_neg (by decide), spend_alu]

/-! ### Its registers -/

/-- A register whose read has no side effect and whose write is discarded. -/
theorem readOnly_cpuReg {s : State} {a : Addr} {o n : Nat} {b : Byte} (hread : readCpuReg o s = (b, s)) (v : Byte)
    (hwrite : writeCpuReg o v s = s) (hb : b.toNat = n) (h : CpuReg s a o) :
    (busRead a s).1.toNat = n ∧
      (busRead a s).2 = { s with bus := { s.bus with mdr := (busRead a s).1 } } ∧
      busWrite a v s = { s with bus := { s.bus with mdr := v } } := by
  rw [busRead_cpuReg h, busWrite_cpuReg h, hread, hwrite]
  exact ⟨hb, rfl, rfl⟩

theorem word_hi_eq_ofNat (w : Word) (v : Byte) : word (hi w) v = BitVec.ofNat 16 (w.toNat / 256 * 256 + v.toNat) := by
  apply BitVec.eq_of_toNat_eq
  rw [word_toNat, hi_toNat, BitVec.toNat_ofNat]
  omega

theorem word_lo_eq_ofNat (w : Word) (v : Byte) : word v (lo w) = BitVec.ofNat 16 (v.toNat * 256 + w.toNat % 256) := by
  apply BitVec.eq_of_toNat_eq
  rw [word_toNat, lo_toNat, BitVec.toNat_ofNat]
  omega

/-- The operand registers are write-only (R491, R494). -/
theorem readCpuReg_operand {o : Nat} (hlo : 0x4202 ≤ o) (hhi : o ≤ 0x4206) (s : State) :
    readCpuReg o s = (s.bus.mdr, s) := by
  interval_cases o <;> rfl

/-- Settles O49: the results come with the last tick of the countdown (`ticks_countdown`), and an internal cycle with the
controller at rest is a tick (`idle_alu`). -/
theorem multiplyDivide : Obligations.MultiplyDivide := by
  unfold Obligations.MultiplyDivide
  refine ⟨fun u v hmpy hdiv => ?results, fun u v hbusy => ?busy, fun s a v h hmpy hdiv => ?cycles, fun s a v => ?registers⟩
  case results =>
    exact ⟨fun _ => ticks_writeMpyB_of_lt hmpy hdiv v, fun _ => ticks_writeMpyB_of_ge hmpy hdiv v,
      fun _ => ticks_writeDivB_of_lt hmpy hdiv v, fun _ => ticks_writeDivB_of_ge hmpy hdiv v⟩
  case busy =>
    rw [Alu.writeMpyB, Alu.writeDivB, if_pos (Alu.busy_eq_true_iff.2 hbusy), if_pos (Alu.busy_eq_true_iff.2 hbusy)]
    exact ⟨rfl, rfl⟩
  case cycles =>
    have hbusy := Alu.busy_eq_false_iff.2 ⟨hmpy, hdiv⟩
    refine ⟨fun ha k => ?_, fun ha k => ?_⟩
    all_goals
      have hwrite := busWrite_cpuReg ha v
      rw [write8_idles_alu h hbusy (by rw [hwrite]; rfl), hwrite]
      rfl
  case registers =>
    refine ⟨readOnly_cpuReg rfl v rfl (lo_toNat _), readOnly_cpuReg rfl v rfl (hi_toNat _),
      readOnly_cpuReg rfl v rfl (lo_toNat _), readOnly_cpuReg rfl v rfl (hi_toNat _), fun o hlo hhi ha => ?operand, ?_⟩
    case operand =>
      rw [busRead_cpuReg ha, readCpuReg_operand hlo hhi]
      rfl
    dsimp only
    rw [← word_hi_eq_ofNat, ← word_lo_eq_ofNat]
    exact ⟨fun ha => busWrite_cpuReg ha v, fun ha => busWrite_cpuReg ha v, fun ha => busWrite_cpuReg ha v⟩

end Sys2Proof.Machine
end

section
/-! PROOFS. The joypad ports and the auto-poll (46_cpu_io.md R511-R515). -/

namespace Sys2Proof.Machine
open Sys2Proof.Claims

/-! ### The serial ports (R511, R513) -/

theorem SerialPort.bit_strobe (pad : Word) (p : SerialPort) :
    SerialPort.bit true pad p = (Claims.bit pad.toNat 15, ⟨pad, 0⟩) := by
  rw [← getLsbD_eq_bit]
  rfl

theorem SerialPort.bit_shift (pad data : Word) (k : Nat) :
    SerialPort.bit false pad ⟨data, k⟩ =
      if k < 16 then (Claims.bit data.toNat (15 - k), ⟨data, k + 1⟩) else (true, ⟨data, k⟩) := by
  rw [← getLsbD_eq_bit]
  rfl

/-- Bit k of what a port sends: the word from bit 15 down, and then ones. -/
def serialBit (data : Word) (k : Nat) : Bool := if k < 16 then bit data.toNat (15 - k) else true

/-- After k reads the index is k, but stays at 16. -/
theorem SerialPort.bit_at (pad data : Word) (k : Nat) :
    SerialPort.bit false pad ⟨data, min k 16⟩ = (serialBit data k, ⟨data, min (k + 1) 16⟩) := by
  rw [SerialPort.bit_shift, serialBit]
  by_cases h : k < 16
  · rw [Nat.min_eq_left (by omega), Nat.min_eq_left (by omega), if_pos h, if_pos h]
  · rw [Nat.min_eq_right (by omega), Nat.min_eq_right (by omega), if_neg h, if_neg (by decide)]

theorem serialReads_shift (pad data : Word) (n k : Nat) :
    (serialReads false pad n ⟨data, min k 16⟩).1 = (List.range' k n).map (serialBit data) := by
  induction n generalizing k with
  | zero => rfl
  | succ n ih =>
    simp only [serialReads, SerialPort.bit_at, List.range'_succ, List.map_cons]
    rw [ih (k + 1)]

theorem serialReads_strobe (pad : Word) (n : Nat) (p : SerialPort) :
    (serialReads true pad n p).1 = List.replicate n (bit pad.toNat 15) := by
  induction n generalizing p with
  | zero => rfl
  | succ n ih =>
    simp only [serialReads, SerialPort.bit_strobe, List.replicate_succ]
    rw [ih]

/-! ### JOYWR, JOYA and JOYB (R512, R513) -/

theorem Joypad.writeStrobe_eq (j : Joypad) (v : Byte) :
    j.writeStrobe v = if bit v.toNat 0 then { j with strobe := true, ser0 := ⟨j.pad0, 0⟩, ser1 := ⟨j.pad1, 0⟩ }
      else { j with strobe := false } := by
  rw [← byte_getLsbD_eq_bit]
  rfl

theorem readJoyA_toNat (s : State) :
    (readJoyA s).1.toNat = s.bus.mdr.toNat / 4 * 4 + (s.joy.ser0.bit s.joy.strobe s.joy.pad0).1.toNat := by
  have := s.bus.mdr.isLt
  simp only [readJoyA, append_toNat, BitVec.toNat_ofBool, BitVec.extractLsb'_toNat, Nat.shiftRight_eq_div_pow,
    BitVec.toNat_ofNat]
  omega

theorem readJoyB_toNat (s : State) :
    (readJoyB s).1.toNat = s.bus.mdr.toNat / 32 * 32 + 28 + (s.joy.ser1.bit s.joy.strobe s.joy.pad1).1.toNat := by
  have := s.bus.mdr.isLt
  simp only [readJoyB, append_toNat, BitVec.toNat_ofBool, BitVec.extractLsb'_toNat, Nat.shiftRight_eq_div_pow,
    BitVec.toNat_ofNat]
  omega

/-! ### The auto-poll (R514) -/

theorem eventAutojoy_due {s : State} (hv : s.clk.vcounter = s.params.vdisp) (hh : s.clk.hcounter = 2) :
    (eventAutojoy s).joy = s.joy.autoPoll := by
  rw [eventAutojoy, if_pos (by rw [decide_eq_true hv, decide_eq_true hh]; rfl)]

/-- Settles O50: the serial reads one after another (`SerialPort.bit_at`), and each access is that of the register
(`busRead_cpuReg`, `busWrite_cpuReg`). -/
theorem joypads : Obligations.Joypads := by
  unfold Obligations.Joypads
  refine ⟨fun pad data k => ⟨SerialPort.bit_strobe pad _, SerialPort.bit_shift pad data k⟩, fun pad data n => ?serial,
    serialReads_strobe, fun s a v h => ?joywr, fun s a => ⟨fun h => ?joya, fun h => ?joyb⟩,
    fun s hv hh => eventAutojoy_due hv hh, fun s a v => ?joy⟩
  case serial =>
    rw [List.range_eq_range']
    exact serialReads_shift pad data n 0
  case joywr =>
    rw [busWrite_cpuReg h]
    exact Joypad.writeStrobe_eq s.joy v
  case joya =>
    rw [busRead_cpuReg h]
    exact ⟨readJoyA_toNat s, rfl⟩
  case joyb =>
    rw [busRead_cpuReg h]
    exact ⟨readJoyB_toNat s, rfl⟩
  case joy =>
    exact ⟨readOnly_cpuReg rfl v rfl (lo_toNat _), readOnly_cpuReg rfl v rfl (hi_toNat _),
      readOnly_cpuReg rfl v rfl (lo_toNat _), readOnly_cpuReg rfl v rfl (hi_toNat _),
      readOnly_cpuReg rfl v rfl (lo_toNat _), readOnly_cpuReg rfl v rfl (hi_toNat _),
      readOnly_cpuReg rfl v rfl (lo_toNat _), readOnly_cpuReg rfl v rfl (hi_toNat _)⟩

end Sys2Proof.Machine
end

section
/-! PROOFS. What a step does at an instruction boundary, and the entry into an NMI or IRQ handler (60_exceptions.md R560,
R566, R567, R570, R575; 45_dma_hdma.md R441, R454). -/

namespace Sys2Proof.Machine
open Sys2Proof.Claims

/-! ### The entry into an NMI or IRQ handler (R567, R570) -/

/-- R36, R570: in emulation mode bit 4 of the copy is 0 and bit 5 is 1. -/
theorem requestP_eq (c : Cpu) :
    requestP c = BitVec.ofNat 8 (if c.e then statusByte { c.p with x := false, m := true } else statusByte c.p) := by
  have hbits : ∀ p : Status, (p.toByte &&& 0xEF) ||| 0x20 = ({ p with x := false, m := true } : Status).toByte := by
    rintro ⟨n, v, m, x, d, i, z, c⟩
    revert n v m x d i z c
    decide
  rw [requestP, hbits, apply_ite (BitVec.ofNat 8), toByte_eq_statusByte, toByte_eq_statusByte]

theorem IntKind.vector_eq (k : IntKind) (e : Bool) :
    k.vector e = match k with
      | .nmi => if e then 0xFFFA else 0xFFEA
      | .irq => if e then 0xFFFE else 0xFFEE := by
  cases k <;> cases e <;> rfl

theorem takeInterrupt_eq (k : IntKind) (s : State) :
    takeInterrupt k s = enterHandler (requestP s.cpu) (k.vector s.cpu.e) (idles 2 s) := by
  simp only [takeInterrupt, idles_cpu]

/-- Settles O12: after two internal cycles it is the shared entry into a handler (`enterHandler_enters`), with the copy of P
and the vector of the kind. -/
theorem interruptEntry : Obligations.InterruptEntry := by
  unfold Obligations.InterruptEntry
  intro k s vector p pCopy
  have hvector : k.vector s.cpu.e = vector := k.vector_eq s.cpu.e
  have hcopy : requestP s.cpu = pCopy := requestP_eq s.cpu
  rw [takeInterrupt_eq, hvector, hcopy]
  exact enterHandler_enters (idles_cpu 2 s) (fun h => (Touches.refl h).idles 2) pCopy vector

/-! ### The order at a boundary (R560, R575) -/

theorem step_of_noInput {s : State} (h : s.hostIn = []) : step s = machineStep s := by
  simp only [step, takeHostInput, h]

theorem machineStep_of_reset {s : State} (h : s.intr.resetPending = true) : machineStep s = .next (resetSequence s) := by
  simp only [machineStep, cpuStep, h, Bool.not_true, Bool.and_false, Bool.false_eq_true, if_false, if_true]

theorem machineStep_of_inactive {s : State} (h : s.dma.active = false) : machineStep s = cpuStep s := by
  simp only [machineStep, h, Bool.false_and, Bool.false_eq_true, if_false]

section
variable {s : State} (hreset : s.intr.resetPending = false)
include hreset

/-- R441: the CPU is suspended while the controller owns the bus. -/
theorem machineStep_of_active (h : s.dma.active = true) : machineStep s = .next (dmaClock s) := by
  simp only [machineStep, h, hreset, Bool.not_false, Bool.and_true, if_true]

theorem cpuStep_of_stp (h : s.cpu.run = .stp) : cpuStep s = .next (idle s) := by
  simp only [cpuStep, hreset, h, Bool.false_eq_true, if_false]

theorem cpuStep_of_wai (h : s.cpu.run = .wai) : cpuStep s = .next (waiStep s) := by
  simp only [cpuStep, hreset, h, Bool.false_eq_true, if_false]

/-- R560: what the boundary serves is the whole step. -/
theorem cpuStep_of_served (h : s.cpu.run = .run) {t : State} (hboundary : boundary s = (t, false)) :
    cpuStep s = .next t := by
  simp only [cpuStep, hreset, h, hboundary, Bool.false_eq_true, if_false]

/-- R560: with nothing served the step is an instruction. -/
theorem cpuStep_of_notServed (h : s.cpu.run = .run) {f : State} (hboundary : boundary s = (f, true)) :
    cpuStep s = exec (fetchInstr f).1 (fetchInstr f).2 := by
  simp only [cpuStep, hreset, h, hboundary, Bool.false_eq_true, if_false, if_true]

/-- R575: the raw pending bits end the wait, whatever P.I says. -/
theorem waiStep_of_pending (h : s.intr.nmi.pending = true ∨ s.intr.irq.pending = true) :
    waiStep s = s.mapCpu fun c => { c with run := .run } := if_pos (by rw [hreset]; simpa using h)

theorem waiStep_of_nothing (hnmi : s.intr.nmi.pending = false) (hirq : s.intr.irq.pending = false) :
    waiStep s = idle s := if_neg (by rw [hreset, hnmi, hirq]; decide)

end

/-- The state in which the boundary has looked at `interrupt_pending` (R560). -/
def seen (s : State) : State := { s with intr := { s.intr with interruptPending := false } }

theorem seen_of_notPending {s : State} (h : s.intr.interruptPending = false) : seen s = s := by
  rw [seen, ← h]

theorem boundary_of_notPending {s : State} (h : s.intr.interruptPending = false) : boundary s = (seen s, true) := by
  rw [boundary, if_neg (by simp [h]), seen_of_notPending h]

section
variable {s : State} (h : s.intr.interruptPending = true)
include h

/-- R560, R566. -/
theorem boundary_of_due {k : IntKind} (hk : s.intr.dueKind = some k) :
    boundary s = (takeInterrupt k { s with intr := (seen s).intr.served k }, false) := by
  have hseen : (seen s).intr.dueKind = some k := hk
  rw [boundary, if_pos h]
  rw [seen] at hseen
  simp only [hseen]
  rfl

theorem boundary_of_noneDue (hk : s.intr.dueKind = none) : boundary s = (seen s, true) := by
  have hseen : (seen s).intr.dueKind = none := hk
  rw [boundary, if_pos h]
  rw [seen] at hseen
  simp only [hseen]
  rfl

end

/-- Settles O11: `step` is `machineStep` when the host does nothing, and each case of the order is one branch of it. -/
theorem boundaryOrder : Obligations.BoundaryOrder := by
  unfold Obligations.BoundaryOrder
  intro s hin
  rw [step_of_noInput hin]
  refine ⟨machineStep_of_reset, fun hreset hactive => ⟨machineStep_of_active hreset hactive, dmaClock_cpu s⟩,
    fun hreset hactive => ?cpu⟩
  rw [machineStep_of_inactive hactive]
  refine ⟨cpuStep_of_stp hreset, fun hwai h => ?wake, fun hwai hnmi hirq => ?wait, fun hrun => ⟨fun hp hnmi => ?nmi,
    fun hp hnmi hirq => ?irq, fun h => ⟨seen s, rfl, cpuStep_of_notServed hreset hrun ?fetch⟩⟩⟩
  case wake =>
    rw [cpuStep_of_wai hreset hwai, waiStep_of_pending hreset h]
    rfl
  case wait => rw [cpuStep_of_wai hreset hwai, waiStep_of_nothing hreset hnmi hirq]
  case nmi =>
    have hk : s.intr.dueKind = some .nmi := if_pos hnmi
    exact cpuStep_of_served hreset hrun (boundary_of_due hp hk)
  case irq =>
    have hk : s.intr.dueKind = some .irq := by simp [Intr.dueKind, hnmi, hirq]
    exact cpuStep_of_served hreset hrun (boundary_of_due hp hk)
  case fetch =>
    cases hp : s.intr.interruptPending with
    | false => exact boundary_of_notPending hp
    | true =>
      obtain ⟨hnmi, hirq⟩ := h.resolve_left (by simp [hp])
      exact boundary_of_noneDue hp (by simp [Intr.dueKind, hnmi, hirq])

end Sys2Proof.Machine
end

section
/-! PROOFS. A step runs the instruction whose bytes stand at PB:PC (60_exceptions.md R560; 30_encoding.md R171, R174;
10_state.md R39; 42_control_transfer.md R377, R378). -/

namespace Sys2Proof

/-- The fetch leaves one operand byte to the meanings of JSR (abs,X) and JSL (R377, R378). -/
theorem earlyLen_add_lateBytes (m8 x8 : Bool) (b1 b2 b3 : Byte) : ∀ op,
    Machine.earlyLen m8 x8 op + Claims.lateBytes (decodeOp m8 x8 op b1 b2 b3) = operandLen m8 x8 op :=
  eq_of_rows fun row => by fin_cases row <;> rfl

theorem lateBytes_le (i : Instr) : Claims.lateBytes i ≤ 1 := by
  unfold Claims.lateBytes
  split <;> decide

/-- R171: the operand bytes of an instruction are the early ones and the late one. -/
theorem length_of_decode {m8 x8 : Bool} {op : Byte} {os : List Byte} {i : Instr}
    (h : decode m8 x8 (op :: os) = .ok (i, [])) : Machine.earlyLen m8 x8 op + Claims.lateBytes i = os.length := by
  obtain ⟨_, _, hbytes, hlen, rfl, hrest⟩ := decode_eq_ok h
  cases hbytes
  rw [earlyLen_add_lateBytes]
  exact Nat.le_antisymm hlen (List.drop_eq_nil_iff.1 hrest.symm)

/-- The opcode itself is no late byte. -/
theorem lateBytes_lt_of_decode {m8 x8 : Bool} {l : List Byte} {i : Instr} (h : decode m8 x8 l = .ok (i, [])) :
    Claims.lateBytes i < l.length := by
  obtain ⟨op, os, rfl, -, -, -⟩ := decode_eq_ok h
  rw [List.length_cons, ← length_of_decode h]
  omega

/-- An instruction decodes from its bytes whatever follows them. -/
theorem decode_append {m8 x8 : Bool} {l : List Byte} {i : Instr} (h : decode m8 x8 l = .ok (i, [])) (rest : List Byte) :
    decode m8 x8 (l ++ rest) = .ok (i, rest) := by
  obtain ⟨hwf, hl⟩ := encodeDecode.1 m8 x8 l [] i h
  rw [List.append_nil] at hl
  rw [← hl]
  exact decode_encode i hwf rest

end Sys2Proof

namespace Sys2Proof.Machine
open Sys2Proof.Claims

/-- The address of byte k of the code at PB:PC (R174). -/
def codeAddr (c : Cpu) (k : Nat) : Addr := long c.pb (c.pc + BitVec.ofNat 16 k)

/-- Storage holds the bytes of a list from PB:PC on. -/
def HoldsCode (s : State) (l : List Byte) : Prop := ∀ k b, l[k]? = some b → s.bus.byteAt (codeAddr s.cpu k) = some b

theorem HoldsCode.take {s : State} {l : List Byte} (h : HoldsCode s l) (n : Nat) : HoldsCode s (l.take n) := by
  intro k b hk
  rw [List.getElem?_take] at hk
  split at hk
  · exact h k b hk
  · cases hk

/-- t is s, with the controller at rest, after the fetch of the bytes l, of which the last stands on the bus (R39). -/
structure Fetched (s : State) (l : List Byte) (t : State) : Prop where
  touches : Touches s [] [] t
  cpu : t.cpu = { s.cpu with pc := s.cpu.pc + BitVec.ofNat 16 l.length }
  mdr : ∀ b ∈ l.getLast?, t.bus.mdr = b

namespace Fetched

theorem nil {s : State} (h : Quiet s) : Fetched s [] s :=
  ⟨.refl h, by rw [List.length_nil, BitVec.add_zero], fun _ hb => nomatch hb⟩

section
variable {s t : State} {l : List Byte} (h : Fetched s l t)
include h

theorem codeAddr_eq : long t.cpu.pb t.cpu.pc = codeAddr s.cpu l.length := by rw [h.cpu, codeAddr]

variable {b : Byte} (hb : s.bus.byteAt (codeAddr s.cpu l.length) = some b)
include hb

omit h in
theorem noRegister_code : NoRegister s (codeAddr s.cpu l.length) :=
  Storage.noRegister (by rw [Storage, hb]; rfl)

theorem read8_code : (read8 (long t.cpu.pb t.cpu.pc) t).1 = b := by
  rw [h.codeAddr_eq, h.touches.read8_value (noRegister_code hb), busByte, hb]
  rfl

/-- A late operand byte is looked at as it will be fetched. -/
theorem peek_code : peek (long t.cpu.pb t.cpu.pc) t = b := by
  rw [peek, ← read8_value h.touches.quiet]
  exact h.read8_code hb

theorem fetch8 : (Machine.fetch8 t).1 = b ∧ Fetched s (l ++ [b]) (Machine.fetch8 t).2 := by
  refine ⟨h.read8_code hb, ?touches, ?cpu, ?last⟩
  case touches =>
    have hread := h.touches.fetch8
    rw [h.codeAddr_eq] at hread
    exact hread.of_noRegister (by simpa using noRegister_code hb)
  case cpu =>
    rw [fetch8_cpu, h.cpu, List.length_append, List.length_singleton, ← add_ofNat_succ]
  case last =>
    intro b' hb'
    rw [List.getLast?_concat, Option.mem_some_iff] at hb'
    rw [← hb', ← h.read8_code hb]
    exact h.touches.read8_mdr _

end

theorem fetchBytes {s t : State} {l k : List Byte} (h : Fetched s l t) (hcode : HoldsCode s (l ++ k)) :
    (Machine.fetchBytes k.length t).1 = k ∧ Fetched s (l ++ k) (Machine.fetchBytes k.length t).2 := by
  induction k generalizing l t with
  | nil => exact ⟨rfl, (List.append_nil l).symm ▸ h⟩
  | cons b k ih =>
    obtain ⟨hb, hnext⟩ := h.fetch8 (hcode l.length b (by simp))
    have hrest := ih hnext (by rwa [List.append_assoc])
    rw [List.append_assoc] at hrest
    exact ⟨congrArg₂ List.cons hb hrest.1, hrest.2⟩

end Fetched

theorem fetchInstr_eq {s f : State} {op : Byte} {early rest : List Byte} {i : Instr} (hop : (fetch8 s).1 = op)
    (hearly : fetchBytes (earlyLen s.cpu.p.m s.cpu.p.x op) (fetch8 s).2 = (early, f))
    (hdecode : decode s.cpu.p.m s.cpu.p.x (op :: (early ++ [peek (long f.cpu.pb f.cpu.pc) f])) = .ok (i, rest)) :
    fetchInstr s = (i, f) := by
  obtain ⟨_, _, hbytes, -, hi, -⟩ := decode_eq_ok hdecode
  cases hbytes
  simp only [fetchInstr, hop, hearly, hi]

/-- With the byte looked at after the early ones no operand byte is missing. -/
theorem Fetched.early_append_peek {s f : State} {op : Byte} {os : List Byte} {n : Nat} (h : Fetched s (op :: os.take n) f)
    (hcode : HoldsCode s (op :: os)) (hn : n = os.length ∨ n + 1 = os.length) :
    ∃ rest, os.take n ++ [peek (long f.cpu.pb f.cpu.pc) f] = os ++ rest := by
  obtain hall | hlate := hn
  · exact ⟨_, by rw [List.take_of_length_le hall.ge]⟩
  · have hlt : n < os.length := by omega
    have hlast : (op :: os)[(op :: os.take n).length]? = some os[n] := by simp [hlt, Nat.min_eq_left hlt.le]
    refine ⟨[], ?_⟩
    rw [h.peek_code (hcode _ _ hlast), List.take_append_getElem, List.append_nil, List.take_of_length_le hlate.ge]

/-- R171, R174: the fetch answers the instruction whose bytes stand at PB:PC, and has fetched all of them but the late
one. -/
theorem fetchInstr_of_code {s : State} (hquiet : Quiet s) {bytes : List Byte} {i : Instr}
    (hdecode : decode s.cpu.p.m s.cpu.p.x bytes = .ok (i, [])) (hcode : HoldsCode s bytes) :
    (fetchInstr s).1 = i ∧ Fetched s (bytes.take (bytes.length - lateBytes i)) (fetchInstr s).2 := by
  obtain ⟨op, os, rfl, -, -, -⟩ := decode_eq_ok hdecode
  have hlength := length_of_decode hdecode
  generalize hn : earlyLen s.cpu.p.m s.cpu.p.x op = n at hlength
  have htake : (op :: os).take ((op :: os).length - lateBytes i) = op :: os.take n := by
    rw [List.length_cons, ← hlength, Nat.add_right_comm, Nat.add_sub_cancel, List.take_succ_cons]
  have hcount : (os.take n).length = n := List.length_take_of_le (by omega)
  obtain ⟨hop, hfetched⟩ := (Fetched.nil hquiet).fetch8 (hcode 0 op rfl)
  obtain ⟨hearly, hf⟩ := hfetched.fetchBytes (k := os.take n) (hcode.take (n + 1))
  rw [hcount] at hearly hf
  obtain ⟨rest, hrest⟩ := hf.early_append_peek hcode (by have := lateBytes_le i; omega)
  have hfetch : fetchInstr s = (i, (fetchBytes n (fetch8 s).2).2) :=
    fetchInstr_eq (early := os.take n) hop (by rw [hn]; exact Prod.ext hearly rfl)
      (by rw [hrest]; exact decode_append hdecode rest)
  rw [hfetch, htake]
  exact ⟨rfl, hf⟩

/-- Settles O10: nothing is due at the boundary, so the step is `exec` of what `fetchInstr` answers
(`fetchInstr_of_code`). -/
theorem stepRunsInstruction : Obligations.StepRunsInstruction := by
  unfold Obligations.StepRunsInstruction
  intro s bytes i hin hreset hrun hpending hquiet hdecode hbytes
  have hcode : HoldsCode s bytes := by
    intro k b hk
    obtain ⟨hlt, hb⟩ := List.getElem?_eq_some_iff.1 hk
    rw [codeAddr, hbytes k hlt, List.getD_eq_getElem _ _ hlt, hb]
  obtain ⟨hi, hf⟩ := fetchInstr_of_code hquiet hdecode hcode
  have hreads := readsOnly_of_touches (fun _ => hf.touches) hquiet
  refine ⟨(fetchInstr s).2, ?step, ?cpu, hreads.1, (hreads.2 (by simp)).1, hf.touches.quiet, ?mdr⟩
  case step =>
    rw [step_of_noInput hin, machineStep_of_inactive hquiet.1,
      cpuStep_of_notServed hreset hrun (boundary_of_notPending hpending), seen_of_notPending hpending, hi]
  case cpu =>
    rw [hf.cpu, List.length_take, Nat.min_eq_left (Nat.sub_le _ _)]
  case mdr =>
    have hlate := lateBytes_lt_of_decode hdecode
    apply hf.mdr
    rw [List.getLast?_take, if_neg (by omega), List.getD_eq_getElem _ _ (by omega), List.getElem?_eq_getElem (by omega)]
    rfl

end Sys2Proof.Machine
end

section
/-! PROOFS. The interrupt sources: the hold of a detected edge, the poll, and the external level (60_exceptions.md R550,
R551, R555, R563, R566). -/

namespace Sys2Proof.Machine
open Sys2Proof.Claims

/-! ### The polls of one source (R550) -/

section
variable {q : IntSource}

/-- A detected edge starts the hold; with INT_HOLD = 0 it is pending at once. -/
theorem IntSource.poll_of_edge (ht : q.transition = true) (hh : q.hold = 0) (intHold : Nat) :
    q.poll intHold = { q with
      transition := false, hold := intHold, pending := q.pending || decide (intHold = 0) } := by
  rw [IntSource.poll, IntSource.pollHold, if_pos hh, IntSource.pollEdge, if_pos ht]
  split
  next hzero => rw [hzero, ← hh, decide_eq_true rfl, Bool.or_true]
  next hne => rw [decide_eq_false hne, Bool.or_false]

/-- Without a new edge the hold counts down, and its end makes the source pending. -/
theorem IntSource.poll_of_hold (ht : q.transition = false) (hh : q.hold ≠ 0) (intHold : Nat) :
    q.poll intHold = { q with hold := q.hold - 1, pending := q.pending || decide (q.hold - 1 = 0) } := by
  rw [IntSource.poll, IntSource.pollHold, if_neg hh]
  exact if_neg (by simp [ht])

theorem IntSource.poll_of_idle (ht : q.transition = false) (hh : q.hold = 0) (intHold : Nat) : q.poll intHold = q := by
  rw [IntSource.poll, IntSource.pollHold, if_pos hh]
  exact if_neg (by simp [ht])

theorem polls_of_idle (ht : q.transition = false) (hh : q.hold = 0) (intHold n : Nat) : polls intHold n q = q := by
  induction n with
  | zero => rfl
  | succ n ih => rw [polls, IntSource.poll_of_idle ht hh, ih]

end

/-- A held source is pending when as many polls have passed as the hold says. -/
theorem polls_of_hold {q : IntSource} (ht : q.transition = false) (hh : q.hold ≠ 0) (intHold n : Nat) :
    (polls intHold n q).pending = (q.pending || decide (q.hold ≤ n)) := by
  induction n generalizing q with
  | zero => rw [polls, decide_eq_false (by omega), Bool.or_false]
  | succ n ih =>
    have hpoll := IntSource.poll_of_hold ht hh intHold
    have htransition : (q.poll intHold).transition = false := by rw [hpoll]; exact ht
    have hhold : (q.poll intHold).hold = q.hold - 1 := by rw [hpoll]
    have hpending : (q.poll intHold).pending = (q.pending || decide (q.hold - 1 = 0)) := by rw [hpoll]
    rw [polls]
    by_cases hlast : q.hold - 1 = 0
    · rw [polls_of_idle htransition (hhold.trans hlast), hpending, decide_eq_true hlast, decide_eq_true (by omega)]
    · rw [ih htransition (by rwa [hhold]), hpending, hhold, decide_eq_false hlast, Bool.or_false,
        decide_eq_decide.2 Nat.sub_le_iff_le_add]

/-- R550: an edge is pending INT_HOLD + 1 polls later. -/
theorem polls_of_edge {q : IntSource} (ht : q.transition = true) (hh : q.hold = 0) (intHold n : Nat) :
    (polls intHold n q).pending = (q.pending || decide (intHold < n)) := by
  cases n with
  | zero => rw [polls, decide_eq_false (Nat.not_lt_zero _), Bool.or_false]
  | succ n =>
    rw [polls, IntSource.poll_of_edge ht hh]
    by_cases hzero : intHold = 0
    · rw [polls_of_idle rfl hzero, decide_eq_true hzero, decide_eq_true (by omega)]
    · rw [polls_of_hold rfl hzero, decide_eq_false hzero, Bool.or_false, decide_eq_decide.2 Nat.lt_succ_iff.symm]

/-! ### The external level and the re-arm checks (R551, R554, R555) -/

theorem Intr.takeExtIrq_eq (attached : Bool) (t : Intr) :
    t.takeExtIrq attached =
      { t with extIrq := attached && t.extIrqIn.headD t.extIrq, extIrqIn := t.extIrqIn.tail } := by
  unfold Intr.takeExtIrq
  split
  next h => rw [h, List.headD_nil, List.tail_nil, ← h]
  next h => rw [h, List.headD_cons, List.tail_cons]

theorem Intr.takeExtIrq_irq (attached : Bool) (t : Intr) : (t.takeExtIrq attached).irq = t.irq := by
  rw [Intr.takeExtIrq_eq]

/-- A re-arm check touches the IRQ's edge only. -/
theorem Intr.rearm_eq (levelMode : Bool) (t : Intr) :
    t.rearm levelMode = { t with irq := { t.irq with transition := (t.rearm levelMode).irq.transition } } := by
  unfold Intr.rearm
  dsimp only
  split <;> rfl

theorem Intr.rearm_of_noLevel {t : Intr} (h : t.extIrq = false) : t.rearm false = t := by
  unfold Intr.rearm
  exact if_neg (by simp [h])

/-- R555: the external level is an edge wherever the IRQ is neither pending nor held. -/
theorem Intr.rearm_of_level {t : Intr} (h : t.extIrq = true) (hpending : t.irq.pending = false) (hhold : t.irq.hold = 0)
    (levelMode : Bool) : t.rearm levelMode = { t with irq := { t.irq with transition := true } } := by
  unfold Intr.rearm
  exact if_pos (by simp [h, hpending, hhold])

/-! ### The poll of the whole state -/

/-- The interrupt state as both sources are polled: the external level taken and the re-arm checks made. -/
def polledIntr (s : State) : Intr := (s.intr.takeExtIrq s.extAttached).rearm s.params.irqLevelMode

section
variable (s : State)

theorem poll_nmi : (poll s).intr.nmi = (polledIntr s).nmi.poll s.params.intHold := rfl

theorem poll_irq : (poll s).intr.irq = (polledIntr s).irq.poll s.params.intHold := rfl

@[simp] theorem polledIntr_nmi : (polledIntr s).nmi = s.intr.nmi := by
  rw [polledIntr, Intr.rearm_eq, Intr.takeExtIrq_eq]

@[simp] theorem polledIntr_resetPending : (polledIntr s).resetPending = s.intr.resetPending := by
  rw [polledIntr, Intr.rearm_eq, Intr.takeExtIrq_eq]

theorem poll_extIrq : (poll s).intr.extIrq = (!s.sched.coprocs.isEmpty && s.intr.extIrqIn.headD s.intr.extIrq) := by
  show (polledIntr s).extIrq = _
  rw [polledIntr, Intr.rearm_eq, Intr.takeExtIrq_eq]
  rfl

theorem poll_extIrqIn : (poll s).intr.extIrqIn = s.intr.extIrqIn.tail := by
  show (polledIntr s).extIrqIn = _
  rw [polledIntr, Intr.rearm_eq, Intr.takeExtIrq_eq]

/-- R563, R566; log entry 25. -/
theorem poll_interruptPending :
    (poll s).intr.interruptPending = (s.intr.resetPending || (poll s).intr.nmi.pending ||
      ((poll s).intr.irq.pending && !(if s.dma.active then s.dma.maskI else s.cpu.p.i))) := by
  rw [← polledIntr_resetPending]
  rfl

end

section
variable {s : State}

theorem polledIntr_irq_of_noLevel (hmode : s.params.irqLevelMode = false) (hext : s.intr.extIrq = false)
    (hin : s.intr.extIrqIn = []) : (polledIntr s).irq = s.intr.irq := by
  rw [polledIntr, hmode, Intr.takeExtIrq_eq, Intr.rearm_of_noLevel (by simp [hext, hin])]

/-- R555. -/
theorem poll_irq_of_level (hext : (poll s).intr.extIrq = true) (hpending : s.intr.irq.pending = false)
    (hhold : s.intr.irq.hold = 0) :
    (poll s).intr.irq = { s.intr.irq with
      transition := false, hold := s.params.intHold, pending := decide (s.params.intHold = 0) } := by
  have hlevel : (s.intr.takeExtIrq s.extAttached).extIrq = true := by
    rw [Intr.takeExtIrq_eq]
    exact (poll_extIrq s).symm.trans hext
  have hirq : (polledIntr s).irq = { s.intr.irq with transition := true } := by
    rw [polledIntr, Intr.rearm_of_level hlevel, Intr.takeExtIrq_irq] <;> rwa [Intr.takeExtIrq_irq]
  have htransition : (polledIntr s).irq.transition = true := by rw [hirq]
  have hheld : (polledIntr s).irq.hold = 0 := by rw [hirq]; exact hhold
  rw [poll_irq, IntSource.poll_of_edge htransition hheld, hirq, hpending, Bool.false_or]

end

/-! ### The host's changes of the external level (R551) -/

section
variable {s t : State}

theorem irqLine_of_unloadCart (h : hostAction .unloadCart s = .next t) : t.intr.irqLine = s.intr.irq.flag := by
  cases h
  exact Bool.or_false _

theorem irqLine_of_loadCart {c : Cart} (h : hostAction (.loadCart c) s = .next t) : t.intr.irqLine = s.intr.irq.flag := by
  rw [loadCart_next h]
  exact Bool.or_false _

theorem irqLine_of_extIrq {level : Bool} (h : hostAction (.extIrq level) s = .next t) :
    t.intr.irqLine = (s.intr.irq.flag || (level && !s.sched.coprocs.isEmpty)) := by
  cases h
  rw [Bool.and_comm]
  rfl

end

/-- Settles O51: an edge starts the hold and the hold counts down (`polls_of_edge`); the poll of the state takes the external
level, makes the re-arm checks and polls both sources (`poll_nmi`, `poll_irq`). -/
theorem edgeBecomesPending : Obligations.EdgeBecomesPending := by
  unfold Obligations.EdgeBecomesPending
  refine ⟨fun h n q ht hh => ?edge, fun h n q ht hh => polls_of_idle ht hh h n, fun s hmode hext hin => ?both,
    poll_interruptPending,
    fun s => ⟨fun hnone => ?unattached, fun hsome => ?attached, poll_extIrqIn s, poll_irq_of_level⟩,
    fun _ _ _ _ => ⟨irqLine_of_unloadCart, irqLine_of_loadCart, irqLine_of_extIrq⟩⟩
  case edge =>
    rw [polls_of_edge ht hh]
    refine ⟨fun hle => ?_, fun hlt => ?_⟩
    · rw [decide_eq_false (Nat.not_lt.2 hle), Bool.or_false]
    · rw [decide_eq_true hlt, Bool.or_true]
  case both =>
    rw [poll_nmi, poll_irq, polledIntr_nmi, polledIntr_irq_of_noLevel hmode hext hin]
    exact ⟨rfl, rfl⟩
  case unattached => rw [poll_extIrq, hnone, List.isEmpty_nil, Bool.not_true, Bool.false_and]
  case attached => rw [poll_extIrq, List.isEmpty_eq_false_iff.2 hsome, Bool.not_false, Bool.true_and]

end Sys2Proof.Machine
end

section
/-! PROOFS. One master clock, and time within a line (60_exceptions.md R546, R547, R551, R553, R586, R590, R597). -/

namespace Sys2Proof.Machine

/-! ### The counters (R586) -/

/-- What a master clock counts, and the limits it counts to: the flags of the line and of the quantum are left out. -/
def Clock.counters (c : Clock) : Nat × Nat × Nat × Bool × Nat × Nat :=
  (c.clockCount, c.hcounter, c.vcounter, c.field, c.lineClocks, c.dramRefreshPosition)

/-- The next clock is the first of a new line. -/
def Clock.endsLine (c : Clock) : Bool := decide (c.hcounter + 1 = c.lineClocks)

/-- The next clock is the first of a new frame. -/
def Clock.endsFrame (p : Params) (c : Clock) : Bool := c.endsLine && decide (c.vcounter + 1 = p.linesInFrame c.field)

theorem Clock.advance_counters (p : Params) (c : Clock) :
    (c.advance p).counters =
      (c.clockCount + 1, if c.endsLine then 0 else c.hcounter + 1,
        if c.endsFrame p then 0 else if c.endsLine then c.vcounter + 1 else c.vcounter,
        c.field != c.endsFrame p, c.lineClocks, c.dramRefreshPosition) := by
  unfold Clock.endsFrame Clock.endsLine Clock.advance
  split
  next hline =>
    dsimp only
    split
    next hframe => simp [Clock.counters, hline, hframe]
    next hframe => simp [Clock.counters, hline, hframe]
  next hline => simp [Clock.counters, hline]

/-! ### The per-line events (R590) -/

/-- The two states are at the same place of the raster, with the same flags for it, and have the same interrupts. -/
structure SameRaster (s t : State) : Prop where
  counters : t.clk.counters = s.clk.counters
  dramRefreshed : t.clk.dramRefreshed = s.clk.dramRefreshed
  quantumOver : t.clk.quantumOver = s.clk.quantumOver
  intr : t.intr = s.intr
  params : t.params = s.params

theorem SameRaster.trans {s t u : State} (h : SameRaster s t) (k : SameRaster t u) : SameRaster s u :=
  ⟨k.counters.trans h.counters, k.dramRefreshed.trans h.dramRefreshed, k.quantumOver.trans h.quantumOver,
    k.intr.trans h.intr, k.params.trans h.params⟩

theorem eventHdmaInit_sameRaster (s : State) : SameRaster s (eventHdmaInit s) := by
  unfold eventHdmaInit; split <;> exact ⟨rfl, rfl, rfl, rfl, rfl⟩
theorem eventHdmaRun_sameRaster (s : State) : SameRaster s (eventHdmaRun s) := by
  unfold eventHdmaRun; split <;> exact ⟨rfl, rfl, rfl, rfl, rfl⟩
theorem eventAutojoy_sameRaster (s : State) : SameRaster s (eventAutojoy s) := by
  unfold eventAutojoy; split <;> exact ⟨rfl, rfl, rfl, rfl, rfl⟩

theorem eventRefresh_eq (s : State) :
    eventRefresh s = { s with clk := { s.clk with dramRefreshed := s.clk.dramRefreshed || refreshDue s } } := by
  unfold eventRefresh
  split
  next h => rw [h, Bool.or_true]
  next h => rw [Bool.eq_false_of_not_eq_true h, Bool.or_false]

theorem IntSource.raiseNmi_eq (q : IntSource) :
    q.raiseNmi = { q with flag := true, transition := q.transition || (!q.flag && q.valid) } := by
  unfold IntSource.raiseNmi
  split
  next h => rw [h, Bool.not_true, Bool.false_and, Bool.or_false, ← h]
  next h => rw [Bool.eq_false_of_not_eq_true h, Bool.not_false, Bool.true_and]

/-- The clock at which `nmi.line` rises (R546). -/
def nmiRises (s : State) : Bool :=
  decide (s.clk.vcounter = s.params.vdisp ∧ s.clk.hcounter = 2) && !s.intr.nmi.flag

/-- Line 0, position 0 (R547). -/
def frameStart (s : State) : Bool := decide (s.clk.vcounter = 0 ∧ s.clk.hcounter = 0)

/-- R546. -/
theorem eventNmi_eq (s : State) :
    eventNmi s = { s with intr := { s.intr with nmi := { s.intr.nmi with
      flag := s.intr.nmi.flag || nmiRises s
      transition := s.intr.nmi.transition || (nmiRises s && s.intr.nmi.valid) } } } := by
  unfold eventNmi nmiRises
  rw [← Bool.decide_and]
  split
  next h => rw [h, Bool.true_and, Bool.or_not_self, IntSource.raiseNmi_eq]
  next h => rw [Bool.eq_false_of_not_eq_true h, Bool.false_and, Bool.or_false, Bool.false_and, Bool.or_false]

/-- R547, R597. -/
theorem eventFrameStart_eq (s : State) :
    eventFrameStart s = { s with
      intr := { s.intr with nmi := { s.intr.nmi with flag := s.intr.nmi.flag && !frameStart s } }
      clk := { s.clk with quantumOver := s.clk.quantumOver || frameStart s } } := by
  unfold eventFrameStart frameStart
  rw [← Bool.decide_and]
  split
  next h => rw [h, Bool.not_true, Bool.and_false, Bool.or_true]
  next h => rw [Bool.eq_false_of_not_eq_true h, Bool.not_false, Bool.and_true, Bool.or_false]

section
variable {s t : State} (h : SameRaster s t)
include h

theorem SameRaster.hcounter : t.clk.hcounter = s.clk.hcounter := by
  have hcounters := h.counters
  simp only [Clock.counters, Prod.mk.injEq] at hcounters
  exact hcounters.2.1

theorem SameRaster.vcounter : t.clk.vcounter = s.clk.vcounter := by
  have hcounters := h.counters
  simp only [Clock.counters, Prod.mk.injEq] at hcounters
  exact hcounters.2.2.1

theorem SameRaster.eventNmi : SameRaster (eventNmi s) (eventNmi t) := by
  have hrises : nmiRises t = nmiRises s := by rw [nmiRises, nmiRises, h.hcounter, h.vcounter, h.params, h.intr]
  rw [eventNmi_eq, eventNmi_eq, hrises, h.intr]
  exact ⟨h.counters, h.dramRefreshed, h.quantumOver, rfl, h.params⟩

theorem SameRaster.eventFrameStart : SameRaster (eventFrameStart s) (eventFrameStart t) := by
  have hstart : frameStart t = frameStart s := by rw [frameStart, frameStart, h.hcounter, h.vcounter]
  rw [eventFrameStart_eq, eventFrameStart_eq, hstart, h.intr, h.quantumOver]
  exact ⟨h.counters, h.dramRefreshed, rfl, rfl, h.params⟩

end

/-- What the line's events make of the raster and the interrupts: the refresh, the NMI and the frame's start alone. -/
def afterEvents (s : State) : State :=
  { s with
    intr := { s.intr with nmi := { s.intr.nmi with
      flag := (s.intr.nmi.flag || nmiRises s) && !frameStart s
      transition := s.intr.nmi.transition || (nmiRises s && s.intr.nmi.valid) } }
    clk := { s.clk with
      dramRefreshed := s.clk.dramRefreshed || refreshDue s
      quantumOver := s.clk.quantumOver || frameStart s } }

theorem lineEvents_sameRaster (s : State) : SameRaster (afterEvents s) (lineEvents s) := by
  have hevents : Machine.eventFrameStart (Machine.eventNmi (eventRefresh s)) = afterEvents s := by
    rw [eventRefresh_eq, eventNmi_eq, eventFrameStart_eq]
    rfl
  rw [← hevents]
  exact (((eventHdmaInit_sameRaster _).trans (eventHdmaRun_sameRaster _)).eventNmi.trans
    (eventAutojoy_sameRaster _)).eventFrameStart

/-! ### The raster compare (R553) -/

theorem IntSource.raiseIrq_eq (q : IntSource) :
    q.raiseIrq = { q with flag := true, transition := q.transition || !q.flag } := by
  unfold IntSource.raiseIrq
  split
  next h => rw [h, Bool.not_true, Bool.or_false, ← h]
  next h => rw [Bool.eq_false_of_not_eq_true h, Bool.not_false, Bool.or_true]

theorem Intr.raster_eq (t : Intr) (h v : Nat) :
    t.raster h v = { t with irq := { t.irq with
      flag := t.irq.flag || (t.rasterHit h v && !t.irq.flag)
      transition := t.irq.transition || (t.rasterHit h v && !t.irq.flag) } } := by
  unfold Intr.raster
  split
  next hit => rw [hit, Bool.true_and, Bool.or_not_self, IntSource.raiseIrq_eq]
  next hit => rw [Bool.eq_false_of_not_eq_true hit, Bool.false_and, Bool.or_false, Bool.or_false]

theorem Intr.rasterHit_eq (t : Intr) (h v : Nat) :
    t.rasterHit h v = match t.virqEn, t.hirqEn with
      | false, false => false
      | true, false => decide (v = t.vtime.toNat ∧ h = 0)
      | false, true => decide (h = 4 * t.htime.toNat + 4)
      | true, true => decide (v = t.vtime.toNat ∧ h = 4 * t.htime.toNat + 4) := by
  unfold Intr.rasterHit
  cases t.virqEn <;> cases t.hirqEn <;> simp only [Bool.decide_and]

/-! ### One master clock -/

theorem advance_quantumOver (s : State) : (advance s).clk.quantumOver = s.clk.quantumOver := by
  unfold advance Clock.advance
  dsimp only
  split
  · split <;> rfl
  · rfl

theorem rasterCompare_clk (s : State) : (rasterCompare s).clk = s.clk := rfl

theorem clockBare_clk (s : State) : (clockBare s).clk = (lineEvents (advance s)).clk := by
  rw [clockBare, rasterCompare_clk]

theorem clockBare_counters (s : State) : (clockBare s).clk.counters = (advance s).clk.counters := by
  rw [clockBare_clk, (lineEvents_sameRaster _).counters]
  rfl

theorem clockBare_quantumOver (s : State) :
    (clockBare s).clk.quantumOver = ((advance s).clk.quantumOver || frameStart (advance s)) := by
  rw [clockBare_clk, (lineEvents_sameRaster _).quantumOver, afterEvents]

theorem clockBare_dramRefreshed (s : State) :
    (clockBare s).clk.dramRefreshed = ((advance s).clk.dramRefreshed || refreshDue (advance s)) := by
  rw [clockBare_clk, (lineEvents_sameRaster _).dramRefreshed, afterEvents]

theorem clockBare_intr (s : State) :
    (clockBare s).intr = (afterEvents (advance s)).intr.raster (advance s).clk.hcounter (advance s).clk.vcounter := by
  have hevents := lineEvents_sameRaster (advance s)
  rw [clockBare, rasterCompare, hevents.hcounter, hevents.vcounter, hevents.intr]
  rfl

/-- Settles O52: `advance` moves the counters, and the events and the raster compare look at where they then stand
(`lineEvents_sameRaster`, `Intr.raster_eq`). -/
theorem masterClock : Obligations.MasterClock := by
  unfold Obligations.MasterClock
  intro s t endLine endFrame h v frame nmiEdge target hit irqEdge
  have hadvance : (advance s).clk.counters = _ := Clock.advance_counters s.params s.clk
  have hcounters := (clockBare_counters s).trans hadvance
  simp only [Clock.counters, Prod.mk.injEq] at hcounters hadvance
  obtain ⟨hcount, hh, hv, hfield, -, -⟩ := hcounters
  obtain ⟨-, hah, hav, -, -, -⟩ := hadvance
  have hedge : nmiRises (advance s) = nmiEdge := by
    rw [nmiRises, hah, hav]
    rfl
  have hframe : frameStart (advance s) = frame := by
    rw [frameStart, hah, hav]
    rfl
  have hhit : (afterEvents (advance s)).intr.rasterHit (advance s).clk.hcounter (advance s).clk.vcounter = hit := by
    rw [hah, hav]
    exact Intr.rasterHit_eq s.intr h v
  refine ⟨hcount, hh, hv, hfield, ?quantum, ?nmi, ?irq⟩
  case quantum =>
    show (clockBare s).clk.quantumOver = _
    rw [clockBare_quantumOver, advance_quantumOver, hframe]
  case nmi =>
    show (clockBare s).intr.nmi = _
    rw [clockBare_intr, Intr.raster_eq, afterEvents, hedge, hframe]
    rfl
  case irq =>
    show (clockBare s).intr.irq = _
    rw [clockBare_intr, Intr.raster_eq, hhit]
    rfl

/-! ### Time within a line (R586, R590) -/

/-- t is k clocks after s in the same line, and the line's refresh has been triggered or not. -/
structure Later (k : Nat) (refreshed : Bool) (s t : State) : Prop where
  clockCount : t.clk.clockCount = s.clk.clockCount + k
  hcounter : t.clk.hcounter = s.clk.hcounter + k
  vcounter : t.clk.vcounter = s.clk.vcounter
  lineClocks : t.clk.lineClocks = s.clk.lineClocks
  position : t.clk.dramRefreshPosition = s.clk.dramRefreshPosition
  refreshed : t.clk.dramRefreshed = refreshed

theorem Later.refl (s : State) : Later 0 s.clk.dramRefreshed s s := ⟨rfl, rfl, rfl, rfl, rfl, rfl⟩

theorem Later.trans {s t u : State} {j k : Nat} {b c : Bool} (h : Later j b s t) (h' : Later k c t u) :
    Later (j + k) c s u where
  clockCount := by rw [h'.clockCount, h.clockCount, Nat.add_assoc]
  hcounter := by rw [h'.hcounter, h.hcounter, Nat.add_assoc]
  vcounter := h'.vcounter.trans h.vcounter
  lineClocks := h'.lineClocks.trans h.lineClocks
  position := h'.position.trans h.position
  refreshed := h'.refreshed

section
variable {s : State}

theorem advance_clk_of_line (hline : s.clk.hcounter + 1 < s.clk.lineClocks) :
    (advance s).clk = { s.clk with clockCount := s.clk.clockCount + 1, hcounter := s.clk.hcounter + 1 } :=
  if_neg hline.ne

theorem refreshDue_advance (hline : s.clk.hcounter + 1 < s.clk.lineClocks) :
    refreshDue (advance s) =
      (decide (s.clk.hcounter + 1 = s.clk.dramRefreshPosition) && !s.clk.dramRefreshed) := by
  rw [refreshDue, advance_clk_of_line hline]

theorem clockBare_later (hline : s.clk.hcounter + 1 < s.clk.lineClocks) :
    Later 1 (s.clk.dramRefreshed || refreshDue (advance s)) s (clockBare s) := by
  have hcounters := clockBare_counters s
  rw [advance_clk_of_line hline] at hcounters
  simp only [Clock.counters, Prod.mk.injEq] at hcounters
  obtain ⟨hcount, hh, hv, -, hlineClocks, hposition⟩ := hcounters
  refine ⟨hcount, hh, hv, hlineClocks, hposition, ?_⟩
  rw [clockBare_dramRefreshed, advance_clk_of_line hline]

/-- Once the refresh has been triggered it is not due again in the line. -/
theorem clockBares_later (href : s.clk.dramRefreshed = true) (k : Nat) (hline : s.clk.hcounter + k < s.clk.lineClocks) :
    Later k true s (iterate clockBare k s) := by
  induction k generalizing s with
  | zero => exact href ▸ .refl s
  | succ k ih =>
    have hfirst := clockBare_later (s := s) (by omega)
    rw [href, Bool.true_or] at hfirst
    have hrest := ih hfirst.refreshed (by rw [hfirst.hcounter, hfirst.lineClocks]; omega)
    rw [iterate_succ, Nat.add_comm]
    exact hfirst.trans hrest

theorem clock_of_notDue (h : refreshDue (advance s) = false) : clock s = clockBare s := by
  rw [clock, if_neg (by simp [h])]

/-- R590: the refresh stalls for 40 clocks more. -/
theorem clock_of_due (h : refreshDue (advance s) = true) (hline : s.clk.hcounter + 41 < s.clk.lineClocks) :
    Later 41 true s (clock s) := by
  have hfirst := clockBare_later (s := s) (by omega)
  rw [h, Bool.or_true] at hfirst
  rw [clock, if_pos h]
  exact hfirst.trans (clockBares_later hfirst.refreshed 40 (by rw [hfirst.hcounter, hfirst.lineClocks]; omega))

/-- No refresh falls due in the next k clocks of the line. -/
def NoRefresh (k : Nat) (s : State) : Prop :=
  s.clk.dramRefreshed = true ∨ s.clk.hcounter + k < s.clk.dramRefreshPosition ∨
    s.clk.dramRefreshPosition ≤ s.clk.hcounter

theorem NoRefresh.notDue {k : Nat} (h : NoRefresh (k + 1) s) (hline : s.clk.hcounter + 1 < s.clk.lineClocks) :
    refreshDue (advance s) = false := by
  rw [refreshDue_advance hline]
  obtain href | hbefore | hafter := h
  · rw [href, Bool.not_true, Bool.and_false]
  · rw [decide_eq_false (by omega), Bool.false_and]
  · rw [decide_eq_false (by omega), Bool.false_and]

theorem NoRefresh.of_later {k : Nat} (h : NoRefresh (k + 1) s) {t : State} (ht : Later 1 s.clk.dramRefreshed s t) :
    NoRefresh k t := by
  rw [NoRefresh, ht.refreshed, ht.hcounter, ht.position]
  exact h.imp_right (Or.imp (by omega) (by omega))

/-- R586: without a refresh k clocks are k clocks. -/
theorem spend_later (k : Nat) (hline : s.clk.hcounter + k < s.clk.lineClocks) (h : NoRefresh k s) :
    Later k s.clk.dramRefreshed s (spend k s) := by
  induction k generalizing s with
  | zero => exact .refl s
  | succ k ih =>
    have hdue := h.notDue (by omega)
    have hfirst := clockBare_later (s := s) (by omega)
    rw [hdue, Bool.or_false] at hfirst
    have hrest := ih (s := clockBare s) (by rw [hfirst.hcounter, hfirst.lineClocks]; omega) (h.of_later hfirst)
    rw [hfirst.refreshed] at hrest
    rw [spend, iterate_succ, clock_of_notDue hdue, Nat.add_comm]
    exact hfirst.trans hrest

end

/-- R590: with the refresh due in them they are 40 more. -/
theorem spend_later_of_refresh {s : State} {k : Nat} (hline : s.clk.hcounter + k + 40 < s.clk.lineClocks)
    (href : s.clk.dramRefreshed = false) (hbefore : s.clk.hcounter < s.clk.dramRefreshPosition)
    (hafter : s.clk.dramRefreshPosition ≤ s.clk.hcounter + k) : Later (k + 40) true s (spend k s) := by
  obtain ⟨j, hj⟩ : ∃ j, s.clk.dramRefreshPosition = s.clk.hcounter + j + 1 :=
    ⟨s.clk.dramRefreshPosition - s.clk.hcounter - 1, by omega⟩
  obtain ⟨m, rfl⟩ : ∃ m, k = j + 1 + m := ⟨k - j - 1, by omega⟩
  have hto := spend_later (s := s) j (by omega) (.inr (.inl (by omega)))
  have hdue : refreshDue (advance (spend j s)) = true := by
    rw [refreshDue_advance (by rw [hto.hcounter, hto.lineClocks]; omega), hto.refreshed, href, hto.hcounter, hto.position,
      decide_eq_true hj.symm]
    rfl
  have hstall := clock_of_due hdue (by rw [hto.hcounter, hto.lineClocks]; omega)
  have hthere := hto.trans hstall
  have hrest := spend_later (s := clock (spend j s)) m (by rw [hthere.hcounter, hthere.lineClocks]; omega)
    (.inl hthere.refreshed)
  rw [hthere.refreshed] at hrest
  rw [spend_add, spend_add]
  have hall := hthere.trans hrest
  rwa [show j + 41 + m = j + 1 + m + 40 by omega] at hall

/-- Settles O53: within a line `spend` is k bare clocks (`spend_later`), or k + 40 where the refresh falls due in it
(`spend_later_of_refresh`). -/
theorem cycleTime : Obligations.CycleTime := by
  unfold Obligations.CycleTime
  refine ⟨fun s k hline h => ?plain, fun s k hline href hbefore hafter => ?stalled⟩
  case plain =>
    have hlater := spend_later k hline h
    exact ⟨hlater.clockCount, hlater.hcounter, hlater.vcounter⟩
  case stalled =>
    have hlater := spend_later_of_refresh hline href hbefore hafter
    exact ⟨hlater.clockCount, hlater.hcounter, hlater.refreshed⟩

end Sys2Proof.Machine
end

section
/-! PROOFS. The scheduler as the CPU sees it: `synchronize` runs the target until it has caught up (60_exceptions.md R596,
R598). -/

namespace Sys2Proof.Machine

theorem Agent.step1_eq (g : Agent) : g.step1 = max 1 g.stepClocks := by
  unfold Agent.step1
  split <;> omega

theorem Agent.step1_pos (g : Agent) : 0 < g.step1 := by rw [g.step1_eq]; omega

theorem Params.cpuFreq_pos (p : Params) : 0 < p.cpuFreq := by
  unfold Params.cpuFreq
  cases p.region <;> decide

/-- R598's loop count is the time the agent lags, in its steps, rounded up. -/
theorem Agent.stepsToCatchUp_eq_ceilDiv (g : Agent) {freq : Nat} (hfreq : 0 < freq) (now : Nat) :
    g.stepsToCatchUp freq now = (now * g.freq - g.clocks * freq) ⌈/⌉ (g.step1 * freq) := by
  have hstep : 0 < g.step1 * freq := Nat.mul_pos g.step1_pos hfreq
  rw [Agent.stepsToCatchUp, if_neg hfreq.ne', Nat.ceilDiv_eq_add_pred_div, Nat.add_sub_assoc hstep]

/-- The agent g' is g after whole steps, each started while it lagged a CPU of frequency freq at time now, and lags no
more (R598). -/
def Caught (freq now : Nat) (g g' : Agent) : Prop :=
  g'.freq = g.freq ∧ g'.stepClocks = g.stepClocks ∧ now * g.freq ≤ g'.clocks * freq ∧
    ∃ k, g'.clocks = g.clocks + k * max 1 g.stepClocks ∧
      ∀ j < k, (g.clocks + j * max 1 g.stepClocks) * freq < now * g.freq

/-- After j steps the agent lags exactly if j is below the loop count. -/
theorem Agent.lags_iff_lt_stepsToCatchUp (g : Agent) {freq : Nat} (hfreq : 0 < freq) (now j : Nat) :
    (g.clocks + j * g.step1) * freq < now * g.freq ↔ j < g.stepsToCatchUp freq now := by
  have hstep : 0 < g.step1 * freq := Nat.mul_pos g.step1_pos hfreq
  rw [g.stepsToCatchUp_eq_ceilDiv hfreq, ← not_le, ← not_le, ceilDiv_le_iff_le_mul hstep, Nat.sub_le_iff_le_add,
    Nat.add_mul, Nat.mul_assoc, Nat.mul_comm j, Nat.add_comm]

/-- R598. -/
theorem Agent.catchUp_caught (g : Agent) {freq : Nat} (hfreq : 0 < freq) (now : Nat) :
    Caught freq now g (g.catchUp freq now) := by
  refine ⟨rfl, rfl, ?_, g.stepsToCatchUp freq now, ?_, fun j hj => ?_⟩
  · exact not_lt.1 fun h => lt_irrefl _ ((g.lags_iff_lt_stepsToCatchUp hfreq now _).1 h)
  · rw [← g.step1_eq]
    rfl
  · rw [← g.step1_eq]
    exact (g.lags_iff_lt_stepsToCatchUp hfreq now j).2 hj

theorem modifyAgent_eq_modify (f : Agent → Agent) (l : List Agent) (k : Nat) : modifyAgent f l k = l.modify k f := by
  induction l generalizing k with
  | nil => cases k <;> rfl
  | cons g l ih => cases k <;> simp [modifyAgent, ih]

/-- Settles O54: the loop count of R598 is the least that leaves the agent caught up (`Agent.catchUp_caught`). -/
theorem synchronizeCatchesUp : Obligations.SynchronizeCatchesUp := by
  unfold Obligations.SynchronizeCatchesUp
  intro s f now caught
  have hcaught : ∀ g : Agent, caught g (g.catchUp f now) := fun g => g.catchUp_caught s.params.cpuFreq_pos now
  refine ⟨hcaught _, hcaught _, fun k g hk => ⟨g.catchUp f now, ?coproc, hcaught g⟩, fun x => ?frame⟩
  case coproc =>
    show (modifyAgent _ s.sched.coprocs k)[k]? = _
    rw [modifyAgent_eq_modify, List.getElem?_modify_eq, hk]
    rfl
  case frame => cases x <;> exact ⟨rfl, rfl, rfl⟩

end Sys2Proof.Machine
end

section
/-! PROOFS. The reset sequence (70_reset_and_hazards.md R622, R625; 60_exceptions.md R560). -/

namespace Sys2Proof.Machine
open Sys2Proof.Claims

/-- The passing of time is no access. -/
theorem Touches.spend {s t : State} {reads : List Addr} {stores : List (Addr × Byte)} (h : Touches s reads stores t)
    (k : Nat) : Touches s reads stores (spend k t) where
  quiet := quiet_spend h.quiet k
  bus := by
    rw [spend_bus]
    exact h.bus
  special hreg := (h.special hreg).trans (spend_sameSpecial k t)

/-- The state in which the reset sequence has taken the request: the CPU runs again. -/
def resetTaken (s : State) : State :=
  { s with intr := { s.intr with resetPending := false }, cpu := { s.cpu with run := .run } }

/-- The reset sequence up to the read of its vector (R622). -/
def beforeResetVector (s : State) : State :=
  setVector 0xFFFC ((spend s.params.resetClocks (resetTaken s)).mapCpu Cpu.resetRegisters)

theorem resetSequence_eq (s : State) :
    resetSequence s =
      (readVector 0x00 0xFFFC (beforeResetVector s)).2.mapCpu fun c =>
        c.setPc (readVector 0x00 0xFFFC (beforeResetVector s)).1 := by
  simp only [resetSequence, beforeResetVector, resetTaken]

/-- The two bytes of the vector lie at 0x00:FFFC and 0x00:FFFD (R178). -/
theorem readResetVector_eq (s : State) : readVector 0x00 0xFFFC s = readPair id 0x00FFFC 0x00FFFD s := by
  have hlow : long 0x00 0xFFFC = 0x00FFFC := by decide
  have hhigh : long 0x00 (0xFFFC + 1) = 0x00FFFD := by decide
  rw [readVector_eq, hlow, hhigh]

theorem resetRegisters_eq (c : Cpu) :
    c.resetRegisters =
      { c with x := idx .w8 c.x.toNat, y := idx .w8 c.y.toNat, s := word 0x01 (lo c.s)
               d := 0, db := 0, pb := 0, p := statusOf 0x34, e := true } := by
  have hp : Status.init = statusOf 0x34 := by decide
  rw [Cpu.resetRegisters, ← trunc_eq_idx, ← trunc_eq_idx, hp]
  rfl

/-- R622: the registers, in every state. -/
theorem resetSequence_cpu (s : State) :
    (resetSequence s).cpu =
      { a := s.cpu.a, x := idx .w8 s.cpu.x.toNat, y := idx .w8 s.cpu.y.toNat, s := word 0x01 (lo s.cpu.s)
        d := 0, db := 0, pb := 0, pc := (readVector 0x00 0xFFFC (beforeResetVector s)).1, p := statusOf 0x34
        e := true, run := .run } := by
  rw [resetSequence_eq, mapCpu_cpu, readVector_cpu, beforeResetVector, setVector_cpu, mapCpu_cpu, spend_cpu,
    resetRegisters_eq]
  rfl

theorem beforeResetVector_mdr (s : State) : (beforeResetVector s).bus.mdr = s.bus.mdr := by
  rw [beforeResetVector, setVector_bus, mapCpu_bus, spend_bus]
  rfl

/-- R622: the sequence stores nothing; the request and `interrupt_vector` are the only special registers it writes. -/
theorem beforeResetVector_touches {s : State} (h : Quiet s) :
    Touches (setVector 0xFFFC (resetTaken s)) [] [] (beforeResetVector s) :=
  (((Touches.refl (s := resetTaken s) h).spend _).mapCpu _).setVector 0xFFFC

theorem resetSequence_touches {s : State} (h : Quiet s) :
    Touches (setVector 0xFFFC (resetTaken s)) [0x00FFFC, 0x00FFFD] [] (resetSequence s) := by
  rw [resetSequence_eq, readResetVector_eq]
  exact ((beforeResetVector_touches h).readPair id 0x00FFFC 0x00FFFD).mapCpu _

/-- Settles O2: the step is `resetSequence` (`machineStep_of_reset`), whose registers hold in every state
(`resetSequence_cpu`); at rest it only reads the vector's two bytes (`resetSequence_touches`). -/
theorem resetSequences : Obligations.ResetSequence := by
  unfold Obligations.ResetSequence
  intro s hin hreset
  refine ⟨resetSequence s, lo (readVector 0x00 0xFFFC (beforeResetVector s)).1,
    hi (readVector 0x00 0xFFFC (beforeResetVector s)).1, ?step, ?cpu, fun hquiet h0 h1 => ?frame⟩
  case step => rw [step_of_noInput hin, machineStep_of_reset hreset]
  case cpu => rw [word_hi_lo, resetSequence_cpu]
  case frame =>
    have hbefore := beforeResetVector_touches hquiet
    have ht := resetSequence_touches hquiet
    obtain ⟨hio, -, -, -, -, -, -, -, -, -, hvector, hpending, -⟩ :=
      ht.special (List.forall_mem_cons.2 ⟨h0, List.forall_mem_singleton.2 h1⟩)
    refine ⟨?low, ?high, fun a => ?memory, hpending, hvector, hio, ht.quiet⟩
    case low =>
      rw [readResetVector_eq, hbefore.readPair_lo id h0, beforeResetVector_mdr]
      rfl
    case high =>
      rw [readResetVector_eq, hbefore.readPair_hi id h1]
      rfl
    case memory =>
      rw [ht.bus]
      rfl

end Sys2Proof.Machine
end

section
/-! PROOFS. What `power()` and the warm `reset()` leave (70_reset_and_hazards.md R620, R621, R623; 20_memory.md R113, R119,
R147). -/

namespace Sys2Proof.Machine
open Sys2Proof.Claims

/-! ### The write-protect flags of the event (R147) -/

/-- Device number j with the flag that the list's last entry for j sets. -/
def MemDevice.protectedAt (l : List (Nat × Bool)) (j : Nat) (d : MemDevice) : MemDevice :=
  (l.reverse.find? fun q => q.1 == j).elim d fun q => { d with writeProtect := q.2 }

theorem protectedBy_getElem? (l : List (Nat × Bool)) (ds : List MemDevice) (j : Nat) :
    (protectedBy l ds)[j]? = ds[j]?.map (MemDevice.protectedAt l j) := by
  simp only [protectedBy, List.getElem?_map, List.getElem?_zipIdx, Option.map_map, Nat.zero_add]
  refine congrArg (fun f => ds[j]?.map f) (funext fun d => ?_)
  simp only [Function.comp_apply, MemDevice.protectedAt]
  cases l.reverse.find? (fun q => q.1 == j) <;> rfl

/-- The last entry for a device counts (R147). -/
theorem MemDevice.protectedAt_append (l : List (Nat × Bool)) (p : Nat × Bool) (j : Nat) (d : MemDevice) :
    d.protectedAt (l ++ [p]) j = if p.1 = j then { d.protectedAt l j with writeProtect := p.2 } else d.protectedAt l j := by
  simp only [MemDevice.protectedAt, List.reverse_append, List.reverse_singleton, List.singleton_append, List.find?_cons]
  by_cases hp : p.1 = j
  · simp only [hp, beq_self_eq_true, if_true]
    cases l.reverse.find? (fun q => q.1 == j) <;> rfl
  · simp only [beq_eq_false_iff_ne.2 hp, if_neg hp]

theorem protectedBy_nil (ds : List MemDevice) : protectedBy [] ds = ds := by
  refine List.ext_getElem? fun j => ?_
  rw [protectedBy_getElem?]
  cases ds[j]? <;> rfl

theorem protectedBy_append (l : List (Nat × Bool)) (p : Nat × Bool) (ds : List MemDevice) :
    protectedBy (l ++ [p]) ds = modifyDevice (fun d => { d with writeProtect := p.2 }) (protectedBy l ds) p.1 := by
  refine List.ext_getElem? fun j => ?_
  rw [modifyDevice_eq_modify, List.getElem?_modify, protectedBy_getElem?, protectedBy_getElem?, Option.map_eq_map,
    Option.map_map]
  exact congrArg (fun f => ds[j]?.map f) (funext fun d => d.protectedAt_append l p j)

/-- R147: setting the flags one after another leaves every device with its last one. -/
theorem setProtection_eq (l : List (Nat × Bool)) (s : State) :
    setProtection l s = { s with bus := { s.bus with devices := protectedBy l s.bus.devices } } := by
  induction l using List.reverseRecOn with
  | nil => rw [protectedBy_nil]; rfl
  | append_singleton l p ih =>
    rw [protectedBy_append]
    calc setProtection (l ++ [p]) s
      _ = setWriteProtect p.1 p.2 (setProtection l s) := List.foldl_append
      _ = _ := by rw [ih]; rfl

/-! ### The map, the clocks of the agents and the channels -/

/-- R113, R119: without a cartridge the map is the fixed one. -/
theorem reinstall_of_none {b : Bus} (h : b.cart = none) :
    b.reinstall.maps = fixedMaps ∧ b.reinstall.mmio = fixedClaims ∧ b.reinstall.devices = [] := by
  rw [Bus.reinstall, h]
  exact ⟨rfl, rfl, rfl⟩

/-- R119: a loaded cartridge's mappings and claims come again over the fixed ones. -/
theorem reinstall_of_some {b : Bus} {c : Cart} (h : b.cart = some c) :
    b.reinstall.maps = c.maps.reverse ++ fixedMaps ∧ b.reinstall.mmio = c.claims ++ fixedClaims ∧
      b.reinstall.devices = b.devices := by
  rw [Bus.reinstall, h]
  exact ⟨rfl, rfl, rfl⟩

theorem reinstall_devices (b : Bus) : b.reinstall.devices = if b.cart.isSome then b.devices else [] := by
  unfold Bus.reinstall
  cases b.cart <;> rfl

/-- R603. -/
theorem zero_coprocs_clocks (x : Sched) : ∀ g ∈ x.zero.coprocs, g.clocks = 0 :=
  List.forall_mem_map.2 fun _ _ => rfl

theorem reset_ch (s : State) (n : Fin 8) : (reset s).ch n = (s.ch n).reset := mapChannels_get Channel.reset s.dma.channels n

/-- Settles O3: both set most fields outright; the map is `reinstall`'s over the devices with the event's flags
(`setProtection_eq`), and the warm reset clears each channel's bits (`reset_ch`). -/
theorem powerAndReset : Obligations.PowerAndReset := by
  unfold Obligations.PowerAndReset
  refine ⟨fun s l => ⟨power (setProtection l s), rfl, ?power⟩, fun s l => ⟨reset (setProtection l s), rfl, ?reset⟩⟩
  case power =>
    rw [setProtection_eq]
    exact ⟨rfl, rfl, rfl, rfl, rfl, rfl, rfl, rfl, rfl, rfl, rfl, rfl, rfl, rfl, rfl, rfl, rfl, rfl,
      zero_coprocs_clocks s.sched, fun hcart => reinstall_of_none hcart, fun c hcart => reinstall_of_some hcart⟩
  case reset =>
    rw [setProtection_eq]
    refine ⟨rfl, rfl, rfl, rfl, install_wram _ _ _, reinstall_devices _, rfl, rfl, rfl, rfl, rfl, rfl, rfl, rfl, rfl,
      rfl, rfl, rfl, rfl, rfl, rfl, rfl, rfl, rfl, rfl, rfl, rfl, rfl, zero_coprocs_clocks s.sched,
      fun hcart => And.imp_right And.left (reinstall_of_none hcart),
      fun c hcart => And.imp_right And.left (reinstall_of_some hcart), fun n => ?channel⟩
    case channel =>
      rw [reset_ch]
      exact ⟨rfl, rfl, rfl, rfl, rfl⟩

end Sys2Proof.Machine
end
